-- ==== Sys2Proof/Word.lean ====
section
/-!
DEFINITION. Word.lean: the two word widths of the core (30_encoding.md R52), its output lines (10_state.md R21) and a
frame (20_memory.md R42).
-/

namespace Sys2Proof

/-- A command word on the `cmd` port (30 R52). -/
abbrev CmdWord := BitVec 64

/-- A micro-operation word in `SEQ` (30 R52). -/
abbrev UopWord := BitVec 16

/-- A line index k = 0..13 (10 R21). -/
abbrev Line := Fin 14

/-- The frame operand as a list of rows, row 0 first, column 0 first in each row (20 R42). -/
abbrev Frame := List (List Bool)

end Sys2Proof
end

