-- ==== Sys2Proof/Config.lean ====
section
/-!
DEFINITION. Config.lean: the construction-time parameters of the core (00_scope.md R10, R12, R13), and the values the
spec leaves free. A free value is an opaque constant: nothing in Lean can prove what it is.
-/

namespace Sys2Proof

/-- The parameters of 00 R10, fixed for the lifetime of an instance. `GROUP_SIZE` is fixed at 7 and is no field. -/
structure Build where
  /-- `HEIGHT` -/
  height : Nat
  /-- `WIDTH` -/
  width : Nat
  /-- `ROW_A3_PRESENT` -/
  rowA3 : Bool
  /-- `COL_A3_PRESENT` -/
  colA3 : Bool
  /-- `TRUE_IS_SET` -/
  trueIsSet : Bool
  /-- `STARTUP_CLEAR` -/
  startupClear : Bool
  /-- `PIN_INV[k]` -/
  pinInv : Vector Bool 14
  /-- `LINE_ID[k]`; `none` is `UNUSED` -/
  lineId : Vector (Option Nat) 14
  /-- `RECOVERY_US`, in microseconds -/
  recoveryUs : Nat
  /-- `SETTLE_US`, in microseconds -/
  settleUs : Nat
  deriving DecidableEq, Repr

/-- Which lines are present (10 R21): every line but an absent A3. -/
def Build.present (b : Build) (k : Line) : Bool :=
  if k = 3 then b.rowA3 else if k = 7 then b.colA3 else true

/-- The constraints of 00 R12 and R13. A build that breaks one has no instance. -/
abbrev Build.Legal (b : Build) : Prop :=
  1 ≤ b.height ∧ b.height ≤ 28 ∧ 1 ≤ b.width ∧ b.width ≤ 28 ∧
  (∀ k : Line, b.lineId[k.val].isSome = b.present k) ∧
  (∀ j k : Line, b.lineId[j.val].isSome = true → b.lineId[j.val] = b.lineId[k.val] → j = k)

/-- FREE VALUE, log 2: the GPIO numbers of the default build (`LINE_ID` is OPEN, 92 D40). Any injective assignment of
GPIO numbers to the fourteen lines is the restriction of some permutation of the naturals. -/
opaque Config.gpioNumber : Equiv.Perm Nat

/-- FREE VALUE, log 2: `RECOVERY_US` of the default build (OPEN, 92 D20). -/
opaque Config.recoveryUs : Nat

/-- FREE VALUE, log 2: `SETTLE_US` of the default build (OPEN, 92 D20). -/
opaque Config.settleUs : Nat

/-- FREE VALUE, log 4: the n-th `draw Bool` (44 R109). -/
opaque Config.freeBool : Nat → Bool

/-- FREE VALUE, log 4: by how many microseconds the wait drawn as number n exceeds its minimum (42 R81). -/
opaque Config.freeOverrun : Nat → Nat

/-- FREE VALUE, log 4: the permutation of `len` things drawn as number n (43 R99). -/
opaque Config.freePermutation : (n len : Nat) → Equiv.Perm (Fin len)

/-- FREE VALUE, log 5: the level of the configured, unwritten line k in the state s, as observation number n sees it
(10 R25 `X`, 93 U17). It depends on all three, so no level tells anything of another. -/
opaque Config.freeLevel {σ : Type} (s : σ) (n k : Nat) : Bool

/-- The default build of 00 R10. -/
def Build.default : Build where
  height := 13
  width := 28
  rowA3 := false
  colA3 := true
  trueIsSet := true
  startupClear := true
  pinInv := Vector.replicate 14 false
  lineId := Vector.ofFn fun k : Line =>
    if k = 3 then none else some (Config.gpioNumber k.val)
  recoveryUs := Config.recoveryUs
  settleUs := Config.settleUs

end Sys2Proof
end

