-- ==== Sys2Proof/Syntax.lean ====
section
/-!
DEFINITION. Syntax.lean: the commands and micro-operations of spec/opcode_table.json, one constructor per row, with
their fields as 30_encoding.md R53 and R57 give them.
-/

namespace Sys2Proof

/-- The sweep modes (10 R26). -/
inductive SweepMode where
  | rowMajor
  | columnMajor
  | random
  | diagonal
  deriving DecidableEq, Repr

/-- The two line decoders; field D of LD_SET_OUTPUT, 0 row and 1 column (30 R57). -/
inductive Decoder where
  | row
  | col
  deriving DecidableEq, Repr

/-- The three kinds of wait (42 R80). -/
inductive DelayKind where
  | pulse
  | recovery
  | settle
  deriving DecidableEq, Repr

/-- Commands (30 R53) and micro-operations (30 R57). -/
inductive Instr where
  /-- INIT: `PULSE`, `MODE` (44 R108) -/
  | init (pulse : BitVec 32) (mode : SweepMode)
  /-- SET_PIXEL: `ROW`, `COL`, `VAL` (43 R92) -/
  | setPixel (row col : BitVec 8) (val : Bool)
  /-- UPDATE_FRAME: the frame comes from its port (43 R101) -/
  | updateFrame
  /-- PIN_WRITE: `K`, `V` (40 R63) -/
  | pinWrite (k : BitVec 4) (v : Bool)
  /-- LD_SET_OUTPUT: `D`, `P` (40 R68) -/
  | ldSetOutput (d : Decoder) (p : BitVec 4)
  /-- ED_SET_ROW_OUTPUT: `G`, `P` (41 R74) -/
  | edSetRowOutput (g : BitVec 2) (p : BitVec 4)
  /-- ED_SET_COL_OUTPUT: `G`, `P` (41 R75) -/
  | edSetColOutput (g : BitVec 2) (p : BitVec 4)
  /-- ENABLE_CHANNEL: `CC` (41 R76) -/
  | enableChannel (cc : BitVec 2)
  /-- DISABLE_CHANNEL: `CC` (41 R77) -/
  | disableChannel (cc : BitVec 2)
  /-- DELAY: `TT` (42 R80) -/
  | delay (tt : BitVec 2)
  /-- GRID_WRITE: `R`, `C`, `V` (43 R94) -/
  | gridWrite (r c : BitVec 5) (v : Bool)
  /-- PIN_CONFIG (44 R109) -/
  | pinConfig
  /-- GRID_CLEAR (44 R110) -/
  | gridClear
  /-- INIT_DONE (44 R111) -/
  | initDone
  deriving DecidableEq, Repr

end Sys2Proof
end

