-- ==== Sys2Proof/WellFormed.lean ====
section
/-!
DEFINITION. WellFormed.lean: which instructions a build allows (30_encoding.md R55, R59). The fields of a command are
all legal (the range of ROW and COL is an acceptance check, 30 R54, not one of legality).
-/

namespace Sys2Proof

/-- The field checks of 30 R59, for one build. -/
def WellFormed (b : Build) : Instr → Bool
  | .init _ _ => true
  | .setPixel _ _ _ => true
  | .updateFrame => true
  | .pinWrite k _ => decide (k.toNat ≤ 13) && !(k == 3#4 && !b.rowA3) && !(k == 7#4 && !b.colA3)
  | .ldSetOutput _ _ => true
  | .edSetRowOutput _ _ => true
  | .edSetColOutput _ _ => true
  | .enableChannel cc => cc == 1#2 || cc == 2#2
  | .disableChannel cc => cc == 1#2 || cc == 2#2
  | .delay tt => tt != 3#2
  | .gridWrite r c _ => decide (r.toNat < b.height) && decide (c.toNat < b.width)
  | .pinConfig => true
  | .gridClear => true
  | .initDone => true

end Sys2Proof
end

