-- ==== Sys2Proof/Decode.lean ====
section
/-!
DEFINITION. Decode.lean: the decoder of both word formats, total, rejecting by name (30_encoding.md R53 to R59), and
after it the encoder, both from the match, mask and field columns of spec/opcode_table.json. The legality of a field's
value (30 R59: K, CC, TT, R, C) depends on the build and is checked by the meaning that reads the field.
-/

namespace Sys2Proof

/-- A word with the format its port gives it (30 R52: decided by the port, never by the bits). -/
inductive Code where
  | cmd (w : CmdWord)
  | uop (w : UopWord)
  deriving DecidableEq, Repr

/-- Why a word is illegal (30 R55, R59). -/
inductive Reject where
  /-- the field OP or UC is reserved -/
  | reservedOp
  /-- a bit that must be 0 is 1 -/
  | reservedBits
  deriving DecidableEq, Repr

/-- `(w AND mask) = match` (30 R56). -/
def spells {n : Nat} (w : BitVec n) (mask value : BitVec n) : Bool := w &&& mask == value

def SweepMode.ofBits (m : BitVec 2) : SweepMode :=
  if m = 0#2 then .rowMajor
  else if m = 1#2 then .columnMajor
  else if m = 2#2 then .random
  else .diagonal

def SweepMode.bits : SweepMode → BitVec 2
  | .rowMajor => 0#2
  | .columnMajor => 1#2
  | .random => 2#2
  | .diagonal => 3#2

def Decoder.ofBit (d : Bool) : Decoder := if d then .col else .row

def Decoder.bit : Decoder → Bool
  | .row => false
  | .col => true

/-- The command decoder (30 R53 to R56). -/
def decodeCmd (w : CmdWord) : Except Reject Instr :=
  if spells w 0x00000000FFFFFFCF#64 0x0000000000000001#64 then
    .ok (.init (w.extractLsb' 32 32) (SweepMode.ofBits (w.extractLsb' 4 2)))
  else if spells w 0xFFFFFFFFFF0000BF#64 0x0000000000000002#64 then
    .ok (.setPixel (w.extractLsb' 8 8) (w.extractLsb' 16 8) (w.getLsbD 6))
  else if spells w 0xFFFFFFFFFFFFFFFF#64 0x0000000000000003#64 then
    .ok .updateFrame
  else if 1 ≤ (w.extractLsb' 0 4).toNat ∧ (w.extractLsb' 0 4).toNat ≤ 3 then .error .reservedBits
  else .error .reservedOp

/-- The micro-operation decoder (30 R57 to R59). -/
def decodeUop (w : UopWord) : Except Reject Instr :=
  if spells w 0xF0FE#16 0x1000#16 then .ok (.pinWrite (w.extractLsb' 8 4) (w.getLsbD 0))
  else if spells w 0xFEF0#16 0x2000#16 then
    .ok (.ldSetOutput (Decoder.ofBit (w.getLsbD 8)) (w.extractLsb' 0 4))
  else if spells w 0xFFC0#16 0x3000#16 then
    .ok (.edSetRowOutput (w.extractLsb' 4 2) (w.extractLsb' 0 4))
  else if spells w 0xFFC0#16 0x4000#16 then
    .ok (.edSetColOutput (w.extractLsb' 4 2) (w.extractLsb' 0 4))
  else if spells w 0xFFFC#16 0x5000#16 then .ok (.enableChannel (w.extractLsb' 0 2))
  else if spells w 0xFFFC#16 0x6000#16 then .ok (.disableChannel (w.extractLsb' 0 2))
  else if spells w 0xFFFC#16 0x7000#16 then .ok (.delay (w.extractLsb' 0 2))
  else if spells w 0xF800#16 0x8000#16 then
    .ok (.gridWrite (w.extractLsb' 6 5) (w.extractLsb' 1 5) (w.getLsbD 0))
  else if spells w 0xFFFF#16 0x9000#16 then .ok .pinConfig
  else if spells w 0xFFFF#16 0xA000#16 then .ok .gridClear
  else if spells w 0xFFFF#16 0xB000#16 then .ok .initDone
  else if 1 ≤ (w.extractLsb' 12 4).toNat ∧ (w.extractLsb' 12 4).toNat ≤ 11 then .error .reservedBits
  else .error .reservedOp

/-- Decoding a word in the format of the port it stands on. -/
def decode : Code → Except Reject Instr
  | .cmd w => decodeCmd w
  | .uop w => decodeUop w

/-! The encoder, from the rows of 30 R53 and R57, most significant field first. -/

def wordInit (pulse : BitVec 32) (mode : SweepMode) : CmdWord := pulse ++ 0#26 ++ mode.bits ++ 0x1#4
def wordSetPixel (row col : BitVec 8) (val : Bool) : CmdWord :=
  0#40 ++ col ++ row ++ 0#1 ++ BitVec.ofBool val ++ 0#2 ++ 0x2#4
def wordUpdateFrame : CmdWord := 0x3#64
def wordPinWrite (k : BitVec 4) (v : Bool) : UopWord := 0x1#4 ++ k ++ 0#7 ++ BitVec.ofBool v
def wordLdSetOutput (d : Decoder) (p : BitVec 4) : UopWord :=
  0x2#4 ++ 0#3 ++ BitVec.ofBool d.bit ++ 0#4 ++ p
def wordEdSetRowOutput (g : BitVec 2) (p : BitVec 4) : UopWord := 0x3#4 ++ 0#6 ++ g ++ p
def wordEdSetColOutput (g : BitVec 2) (p : BitVec 4) : UopWord := 0x4#4 ++ 0#6 ++ g ++ p
def wordEnableChannel (cc : BitVec 2) : UopWord := 0x5#4 ++ 0#10 ++ cc
def wordDisableChannel (cc : BitVec 2) : UopWord := 0x6#4 ++ 0#10 ++ cc
def wordDelay (tt : BitVec 2) : UopWord := 0x7#4 ++ 0#10 ++ tt
def wordGridWrite (r c : BitVec 5) (v : Bool) : UopWord := 0x8#4 ++ 0#1 ++ r ++ c ++ BitVec.ofBool v
def wordPinConfig : UopWord := 0x9000#16
def wordGridClear : UopWord := 0xA000#16
def wordInitDone : UopWord := 0xB000#16

/-- The word of an instruction, in its format. -/
def encode : Instr → Code
  | .init pulse mode => .cmd (wordInit pulse mode)
  | .setPixel row col val => .cmd (wordSetPixel row col val)
  | .updateFrame => .cmd wordUpdateFrame
  | .pinWrite k v => .uop (wordPinWrite k v)
  | .ldSetOutput d p => .uop (wordLdSetOutput d p)
  | .edSetRowOutput g p => .uop (wordEdSetRowOutput g p)
  | .edSetColOutput g p => .uop (wordEdSetColOutput g p)
  | .enableChannel cc => .uop (wordEnableChannel cc)
  | .disableChannel cc => .uop (wordDisableChannel cc)
  | .delay tt => .uop (wordDelay tt)
  | .gridWrite r c v => .uop (wordGridWrite r c v)
  | .pinConfig => .uop wordPinConfig
  | .gridClear => .uop wordGridClear
  | .initDone => .uop wordInitDone

/-- The word numbered as spec/opcode_table.json numbers it, in the format its width names: 16 bits are a
micro-operation, any other width the low bits of a command word (30 R52). -/
def codeOfTable (nbits w : Nat) : Code :=
  if nbits = 16 then .uop (BitVec.ofNat 16 w) else .cmd (BitVec.ofNat 64 w)

/-- The instruction the decoder reads from a word of the opcode table. -/
def decodeTableWord (nbits w : Nat) : Option Instr :=
  match decode (codeOfTable nbits w) with
  | .ok i => some i
  | .error _ => none

end Sys2Proof
end

