-- ==== Sys2Proof/Machine/State.lean ====
section
/-!
DEFINITION. Machine/State.lean: the state of the core and of the host's ports (10_state.md R20 to R37), as plain data,
and its value after reset.
-/

namespace Sys2Proof.Machine

/-- The pixel grid, the core's only memory (20 R38): pairs of a cell's number r * WIDTH + c (20 R41) and its bit. A cell
that is not listed has no value (10 R29). -/
abbrev Memory := List (Nat × Bool)

/-- The one canonical form: cell numbers strictly rising. -/
abbrev Memory.wf (m : Memory) : Prop := m.Pairwise fun a b => a.1 < b.1

/-- The fault codes of 60 R114. -/
inductive FaultCode where
  /-- `F_PINCFG`: raised by PIN_CONFIG when the platform refuses the configuration -/
  | pinCfg
  /-- `F_NOINIT`: raised at acceptance of SET_PIXEL and UPDATE_FRAME before INIT -/
  | noInit
  /-- `F_REINIT`: raised at acceptance of INIT after INIT -/
  | reInit
  /-- `F_RANGE`: raised at acceptance of SET_PIXEL outside the grid -/
  | range
  /-- `F_FRAME_DIM`: raised at acceptance of UPDATE_FRAME with a frame of other dimensions -/
  | frameDim
  /-- `F_ILLEGAL_CMD`: raised at acceptance of an illegal command word -/
  | illegalCmd
  /-- `F_ILLEGAL_UOP`: raised by the step that performs an illegal micro-operation word -/
  | illegalUop
  deriving DecidableEq, Repr

/-- An event of the output trace (10 R33). -/
inductive Event where
  /-- line k was configured as an output -/
  | configure (k : Line)
  /-- line k, on the GPIO line `gpio = LINE_ID[k]`, was written -/
  | level (k : Line) (gpio : Option Nat) (logical physical : Bool)
  /-- a DELAY completed after `actualUs` microseconds, at least `minUs` -/
  | wait (kind : DelayKind) (minUs actualUs : Nat)
  /-- a fault was recorded -/
  | fault (code : FaultCode)
  deriving DecidableEq, Repr

/-- What the host may do in one turn (70 R140). -/
inductive HostAction where
  /-- hold a word on `cmd` with `cmd_valid` = 1, or (`none`) set `cmd_valid` to 0 -/
  | driveCmd (w : Option CmdWord)
  /-- drive the `frame` port -/
  | driveFrame (f : Frame)
  /-- assert `rst` (70 R129) -/
  | reset
  /-- read `status`, `cfg_q`, `grid_q` or a GPIO level -/
  | read
  deriving DecidableEq, Repr

/-- Which agent takes the next step (10 R18). -/
inductive Turn where
  | core
  | host (a : HostAction)
  deriving DecidableEq, Repr

structure State where
  /-- the construction-time parameters (00 R10, 10 R22); no step writes them -/
  build : Build
  /-- `PIN_CFG[k]` (10 R24) -/
  pinCfg : Vector Bool 14
  /-- `PIN_OUT[k]` (10 R24) -/
  pinOut : Vector (Option Bool) 14
  /-- `CFG_PULSE_US` (10 R26) -/
  cfgPulseUs : BitVec 32
  /-- `CFG_SWEEP` (10 R26) -/
  cfgSweep : SweepMode
  /-- `STATUS` (10 R27) -/
  status : BitVec 32
  /-- `GRID` (10 R29) -/
  grid : Memory
  /-- `SEQ`, the head first (10 R31) -/
  seq : List UopWord
  /-- `TRACE`, the oldest event first (10 R33) -/
  trace : List Event
  /-- the `cmd` port; `none` is `cmd_valid` = 0 (10 R35) -/
  cmd : Option CmdWord
  /-- the `frame` port (10 R35) -/
  frame : Frame
  /-- the model's own: the turns still to come, the next first; when it is empty every turn is the core's (log 6) -/
  script : List Turn
  /-- the model's own: how many free values have been drawn (log 4) -/
  draws : Nat
  deriving DecidableEq, Repr

/-- Why the machine stops. -/
inductive Fault where
  /-- Raised by `takeTurn` when `FAULTED` = 1 and the host has no turn left: the core takes no further step until a
  reset (60 R115), and none comes. `code` is `FAULT_CODE`. Safe (log 10). -/
  | stopped (code : BitVec 4)
  deriving DecidableEq, Repr

/-- Why the model gives a step no meaning. -/
inductive Refusal where
  /-- An arm of `exec` without a meaning raises it; no arm does. Safe. -/
  | notModelled (mnemonic : String)
  /-- Raised by PIN_WRITE to a line that is not configured, as 40 R63 asks. Safe. -/
  | unconfiguredLine
  /-- Raised by UPDATE_FRAME when a cell it reads has no value, as 20 R39 asks. Safe. -/
  | unwrittenCell
  /-- Raised by `construct` for a build that breaks 00 R12 or R13. Safe. -/
  | illegalBuild
  deriving DecidableEq, Repr

/-- Every piece of state after power-on reset of a build (10 R37). -/
def State.resetOf (b : Build) : State where
  build := b
  pinCfg := Vector.replicate 14 false
  pinOut := Vector.replicate 14 none
  cfgPulseUs := 0#32            -- DESIGN CHOICE, log 3
  cfgSweep := .rowMajor         -- DESIGN CHOICE, log 3
  status := 0#32
  grid := []
  seq := []
  trace := []
  cmd := none                   -- DESIGN CHOICE, log 6
  frame := List.replicate b.height (List.replicate b.width false) -- DESIGN CHOICE, log 6
  script := []                  -- DESIGN CHOICE, log 6
  draws := 0                    -- DESIGN CHOICE, log 4

/-- The default build right after power-on reset. -/
def State.reset : State := State.resetOf Build.default

end Sys2Proof.Machine
end

