-- ==== Sys2Proof/Machine/Flags.lean ====
section
/-!
DEFINITION. Machine/Flags.lean: the fields of `STATUS` (10_state.md R27), the only flags of the core (10 R28), and the
numbers of the fault codes (60_exceptions.md R114).
-/

namespace Sys2Proof.Machine

/-- The number a fault is recorded under (60 R114). -/
def FaultCode.number : FaultCode → BitVec 4
  | .pinCfg => 1#4
  | .noInit => 2#4
  | .reInit => 3#4
  | .range => 4#4
  | .frameDim => 5#4
  | .illegalCmd => 6#4
  | .illegalUop => 7#4

/-- `STATUS.BUSY`, bit 0. -/
def State.busy (s : State) : Bool := s.status.getLsbD 0
/-- `STATUS.INITIALIZED`, bit 1. -/
def State.initialized (s : State) : Bool := s.status.getLsbD 1
/-- `STATUS.FAULTED`, bit 2. -/
def State.faulted (s : State) : Bool := s.status.getLsbD 2
/-- `STATUS.FAULT_CODE`, bits [7:4]. -/
def State.faultCode (s : State) : BitVec 4 := s.status.extractLsb' 4 4

/-- The word with bit i set to v. -/
def putBit (w : BitVec 32) (i : Nat) (v : Bool) : BitVec 32 :=
  if v then w ||| (1#32 <<< i) else w &&& ~~~(1#32 <<< i)

def State.setBusy (v : Bool) (s : State) : State := { s with status := putBit s.status 0 v }
def State.setInitialized (v : Bool) (s : State) : State := { s with status := putBit s.status 1 v }
def State.setFaulted (v : Bool) (s : State) : State := { s with status := putBit s.status 2 v }
def State.setFaultCode (c : BitVec 4) (s : State) : State :=
  { s with status := (s.status &&& ~~~(0xF0#32)) ||| (c.setWidth 32 <<< 4) }

/-- `cmd_ready` (10 R35): `BUSY` = 0 and `FAULTED` = 0. -/
def State.ready (s : State) : Bool := !s.busy && !s.faulted

end Sys2Proof.Machine
end

