-- ==== Sys2Proof/Machine/Ops.lean ====
section
/-!
DEFINITION. Machine/Ops.lean: the named operations over the grid, the lines, the sequencer, the trace and the ports
(20_memory.md R39 to R43, 40_line_decoder.md R62, R63, 10_state.md R31, R33), raising a fault (60_exceptions.md R115)
and reset (70_reset_and_hazards.md R129).
-/

namespace Sys2Proof.Machine

/-! ### The grid -/

/-- The bit of cell number a, if it has a value. -/
def Memory.read : Memory → Nat → Option Bool
  | [], _ => none
  | (k, x) :: m, a => if k = a then some x else Memory.read m a

/-- The grid with bit v in cell number a, in canonical form. -/
def Memory.write : Memory → Nat → Bool → Memory
  | [], a, v => [(a, v)]
  | (k, x) :: m, a, v =>
    if a < k then (a, v) :: (k, x) :: m
    else if a = k then (a, v) :: m
    else (k, x) :: Memory.write m a v

/-- The cell exists: 0 ≤ r < HEIGHT, 0 ≤ c < WIDTH. -/
def inGrid (b : Build) (r c : Nat) : Bool := decide (r < b.height) && decide (c < b.width)

/-- The number of cell (r, c), as the frame port numbers it (20 R41). -/
def cellNumber (b : Build) (r c : Nat) : Nat := r * b.width + c

/-- GridRead (20 R39): `none` when the precondition fails. -/
def State.gridRead (s : State) (r c : Nat) : Option Bool :=
  if inGrid s.build r c then s.grid.read (cellNumber s.build r c) else none

/-- GridWrite (20 R40). Its callers pass a cell of the grid. -/
def State.gridWrite (r c : Nat) (v : Bool) (s : State) : State :=
  { s with grid := s.grid.write (cellNumber s.build r c) v }

/-- The cells in row-major order: r ascending in the outer loop, c in the inner loop (43 R96). -/
def cells (b : Build) : List (Nat × Nat) :=
  (List.range b.height).flatMap fun r => (List.range b.width).map fun c => (r, c)

/-- GridWrite(r, c, 0) for every cell (44 R110). -/
def State.clearGrid (s : State) : State :=
  (cells s.build).foldl (fun t rc => t.gridWrite rc.1 rc.2 false) s

/-! ### The frame operand -/

/-- T[r][c]. -/
def frameBit (f : Frame) (r c : Nat) : Bool := (f.getD r []).getD c false

/-- The frame has HEIGHT rows of WIDTH cells (20 R42). -/
def frameFits (b : Build) (f : Frame) : Bool :=
  decide (f.length = b.height) && f.all fun row => decide (row.length = b.width)

/-- The rows of a frame given as the port's HEIGHT·WIDTH bits (20 R41). -/
def frameOfPort (b : Build) (bits : Nat) : Frame :=
  (List.range b.height).map fun r =>
    (List.range b.width).map fun c => bits.testBit (cellNumber b r c)

/-! ### Lines and trace -/

/-- All fourteen lines in ascending order. -/
def allLines : List Line := List.finRange 14

/-- Physical level of logical value v on line k: v XOR PIN_INV[k] (40 R62). -/
def physicalOf (b : Build) (k : Line) (v : Bool) : Bool := v ^^ b.pinInv[k.val]

/-- Emit (10 R33). -/
def State.emit (e : Event) (s : State) : State := { s with trace := s.trace ++ [e] }

/-- PinWrite (40 R63): the latch, and the Level event. -/
def State.pinWrite (k : Line) (v : Bool) (s : State) : State :=
  State.emit (.level k s.build.lineId[k.val] v (physicalOf s.build k v))
    { s with pinOut := s.pinOut.set k.val (some v) }

/-! ### Free values -/

/-- n free values have been drawn. -/
def State.drawn (n : Nat) (s : State) : State := { s with draws := s.draws + n }

/-! ### The sequencer -/

/-- The head of `SEQ` has been performed; the step that empties `SEQ` clears `BUSY` (10 R31, R27). -/
def State.retire (s : State) : State :=
  if s.seq.tail = [] then State.setBusy false { s with seq := [] } else { s with seq := s.seq.tail }

/-- A compound micro-operation replaces itself at the head of `SEQ` by its expansion (30 R60). -/
def State.expand (ws : List UopWord) (s : State) : State := { s with seq := ws ++ s.seq.tail }

/-- The acceptance action of a command: its expansion becomes `SEQ`, and `BUSY` says whether it is empty (10 R31,
43 R101). -/
def State.begin (ws : List UopWord) (s : State) : State :=
  State.setBusy (!ws.isEmpty) { s with seq := ws }

/-- INIT's operands go to the configuration registers (10 R26, 44 R108). -/
def State.setConfig (pulse : BitVec 32) (mode : SweepMode) (s : State) : State :=
  { s with cfgPulseUs := pulse, cfgSweep := mode }

/-- The command on the port is consumed (60 R116). -/
def State.consume (s : State) : State := { s with cmd := none }

/-! ### Faults and reset -/

/-- `raise Fault(code)` (60 R115), in one step. -/
def State.raise (code : FaultCode) (s : State) : State :=
  let t := if s.faulted then s
    else State.emit (.fault code) (State.setFaultCode code.number (State.setFaulted true s))
  State.setBusy false { t with seq := [] }

/-- `rst` (70 R129): every piece of the core's state takes its reset value. The ports and the script are the host's and
stay (log 7); the count of free values goes on, so that no draw repeats (log 4). -/
def State.resetCore (s : State) : State :=
  { State.resetOf s.build with cmd := s.cmd, frame := s.frame, script := s.script, draws := s.draws }

/-- Construction of an instance (00 R12, R13): a build that breaks the constraints is refused. -/
def construct (b : Build) : Host.Outcome State Fault Refusal :=
  if b.Legal then .next (State.resetOf b) else .refused .illegalBuild

/-- What a turn of the host does (70 R140). It writes the ports only, but for `rst` (10 R36). -/
def State.hostAct (a : HostAction) (s : State) : State :=
  match a with
  | .driveCmd w => { s with cmd := w }
  | .driveFrame f => { s with frame := f }
  | .reset => s.resetCore
  | .read => s

/-- What the core performs next: the head of `SEQ`, else the command on the port if `cmd_ready` = 1 (10 R31, 60 R116),
else nothing. -/
def State.fetch (s : State) : Option Code :=
  match s.seq with
  | u :: _ => some (.uop u)
  | [] => if s.ready then s.cmd.map Code.cmd else none

/-- An illegal word: a command word is consumed and raises `F_ILLEGAL_CMD` (30 R55), a micro-operation word raises
`F_ILLEGAL_UOP` (30 R59). -/
def State.rejectWord (c : Code) (s : State) : State :=
  match c with
  | .cmd _ => State.raise .illegalCmd s.consume
  | .uop _ => State.raise .illegalUop s

/-- s with the word where the core takes its next one: a command word on the idle core's port, a micro-operation word at
the head of `SEQ` (log 14). The core moves next, and is not stopped by a recorded fault. -/
def State.placeWord (c : Code) (s : State) : State :=
  let t := State.setFaultCode 0#4 (State.setFaulted false s)
  let t := { t with script := if s.script = [] then [] else .core :: s.script }
  match c with
  | .cmd w => State.setBusy false { t with seq := [], cmd := some w }
  | .uop w => State.setBusy true { t with seq := w :: s.seq.tail }

end Sys2Proof.Machine
end

