-- ==== Sys2Proof/Machine/Operands.lean ====
section
/-!
DEFINITION. Machine/Operands.lean: the operand forms and the addressing arithmetic: lines and channels (10_state.md
R21, 41_enable_decoder.md R76), wait kinds (42_timer.md R80), groups, offsets and positions (43_display_controller.md
R87 to R90), the diff and the sweep orders (43 R96 to R100), and the expansions of the compound operations.
-/

namespace Sys2Proof.Machine

/-- The present line a field K names, if it names one (30 R59). -/
def lineOf (b : Build) (k : BitVec 4) : Option Line :=
  if h : k.toNat < 14 then
    if b.present ⟨k.toNat, h⟩ then some ⟨k.toNat, h⟩ else none
  else none

/-- The field K of a channel's enable line, 11 + CC, if CC is 1 or 2 (41 R76, 30 R59). -/
def channelLine (cc : BitVec 2) : Option (BitVec 4) :=
  if cc = 1#2 then some 12#4 else if cc = 2#2 then some 13#4 else none

/-- The kind a field TT names, if it names one (42 R80, 30 R59). -/
def delayKindOf (tt : BitVec 2) : Option DelayKind :=
  if tt = 0#2 then some .pulse else if tt = 1#2 then some .recovery
  else if tt = 2#2 then some .settle else none

/-- The minimum of a wait in microseconds (42 R80). -/
def State.minimumUs (s : State) : DelayKind → Nat
  | .pulse => s.cfgPulseUs.toNat
  | .recovery => s.build.recoveryUs
  | .settle => s.build.settleUs

/-! ### The addressing function -/

/-- `GROUP_SIZE` (00 R10). -/
def groupSize : Nat := 7

/-- The group of a row or column index (43 R87). -/
def groupOf (i : Nat) : Nat := i / groupSize

/-- The offset of a row or column index (43 R87). -/
def offsetOf (i : Nat) : Nat := i % groupSize

/-- 43 R88. -/
def valueIsReset (b : Build) (v : Bool) : Bool := if b.trueIsSet then !v else v

/-- 43 R89. -/
def position (b : Build) (o : Nat) (v : Bool) : Nat := o + 1 + (if valueIsReset b v then 8 else 0)

/-! ### Expansions -/

/-- Whether decoder d has an A3 line (40 R65). -/
def a3Present (b : Build) : Decoder → Bool
  | .row => b.rowA3
  | .col => b.colA3

/-- The line of decoder d's address bit A_i: base line 0 or 4, plus i (40 R68). -/
def addressLine (d : Decoder) (i : Nat) : BitVec 4 :=
  match d with
  | .row => BitVec.ofNat 4 i
  | .col => BitVec.ofNat 4 (4 + i)

/-- The expansion of LD_SET_OUTPUT (40 R68): A2, A1, A0, then A3 inverted where it is present (40 R67). -/
def ldExpansion (b : Build) (d : Decoder) (p : BitVec 4) : List UopWord :=
  [wordPinWrite (addressLine d 2) (p.getLsbD 2),
   wordPinWrite (addressLine d 1) (p.getLsbD 1),
   wordPinWrite (addressLine d 0) (p.getLsbD 0)] ++
  (if a3Present b d then [wordPinWrite (addressLine d 3) (!p.getLsbD 3)] else [])

/-- The expansion of ED_SET_ROW_OUTPUT (41 R74). -/
def edRowExpansion (g : BitVec 2) (p : BitVec 4) : List UopWord :=
  [wordPinWrite 8#4 (g.getLsbD 0), wordPinWrite 9#4 (g.getLsbD 1), wordLdSetOutput .row p]

/-- The expansion of ED_SET_COL_OUTPUT (41 R75). -/
def edColExpansion (g : BitVec 2) (p : BitVec 4) : List UopWord :=
  [wordPinWrite 10#4 (g.getLsbD 0), wordPinWrite 11#4 (g.getLsbD 1), wordLdSetOutput .col p]

/-- `pixel_seq(r, c, v)` (43 R90). -/
def pixelSeq (b : Build) (v : Bool) (rc : Nat × Nat) : List UopWord :=
  [wordEdSetRowOutput (BitVec.ofNat 2 (groupOf rc.1)) (BitVec.ofNat 4 (position b (offsetOf rc.1) v)),
   wordEdSetColOutput (BitVec.ofNat 2 (groupOf rc.2)) (BitVec.ofNat 4 (position b (offsetOf rc.2) v)),
   wordEnableChannel 2#2,
   wordDelay 0#2,
   wordDisableChannel 2#2,
   wordDelay 1#2,
   wordGridWrite (BitVec.ofNat 5 rc.1) (BitVec.ofNat 5 rc.2) v]

/-- The expansion of INIT (44 R108). -/
def initSeq (b : Build) : List UopWord :=
  [wordPinConfig, wordGridClear, wordEnableChannel 1#2, wordDisableChannel 2#2, wordDelay 2#2] ++
  (if b.startupClear then (cells b).flatMap (pixelSeq b false) else []) ++
  [wordInitDone]

/-! ### Diff and sweep order -/

/-- The cells of the list whose target value differs from the grid, in the list's order; `none` if a GridRead has no
value to give (43 R96, 20 R39). -/
def diffAmong (s : State) : List (Nat × Nat) → Option (List (Nat × Nat))
  | [] => some []
  | (r, c) :: rest =>
    match s.gridRead r c, diffAmong s rest with
    | some v, some ds => some (if frameBit s.frame r c = v then ds else (r, c) :: ds)
    | _, _ => none

/-- The diff of the frame and the grid (43 R96). -/
def State.diff (s : State) : Option (List (Nat × Nat)) := diffAmong s (cells s.build)

/-- The stable sort by column (43 R98). -/
def byColumn (ds : List (Nat × Nat)) : List (Nat × Nat) := ds.insertionSort fun a b => a.2 ≤ b.2

/-- The list in the order of a permutation (43 R99). -/
def permute {α : Type} (l : List α) (π : Equiv.Perm (Fin l.length)) : List α :=
  List.ofFn fun i => l.get (π i)

/-- The order in which the cells of the diff are pulsed (43 R97 to R101). -/
def State.sweepOrder (s : State) (ds : List (Nat × Nat)) : List (Nat × Nat) :=
  match s.cfgSweep with
  | .rowMajor => ds
  | .columnMajor => byColumn ds
  | .random => permute ds (Config.freePermutation s.draws ds.length)
  | .diagonal => ds

/-- How many free values the ordering draws: one under Random (43 R99). -/
def State.sweepDraws (s : State) : Nat :=
  match s.cfgSweep with
  | .rowMajor => 0
  | .columnMajor => 0
  | .random => 1
  | .diagonal => 0

/-- The expansion of UPDATE_FRAME for a diff (43 R101). -/
def State.sweepSeq (s : State) (ds : List (Nat × Nat)) : List UopWord :=
  (s.sweepOrder ds).flatMap fun rc => pixelSeq s.build (frameBit s.frame rc.1 rc.2) rc

end Sys2Proof.Machine
end

