-- ==== Sys2Proof/Machine/Accept.lean ====
section
/-!
DEFINITION. Machine/Accept.lean: the acceptance of a legal command word (60_exceptions.md R116), shared by the three
commands.
-/

namespace Sys2Proof.Machine

/-- Acceptance up to check 2 of 60 R116. Not ready: the command is held, nothing changes. Ready: the command is consumed;
`INITIALIZED` must be `wanted`, else `code` is raised; then `action` does the rest. -/
def accept (wanted : Bool) (code : FaultCode) (action : State → Host.Outcome State Fault Refusal)
    (s : State) : Host.Outcome State Fault Refusal :=
  if s.ready then
    if s.initialized = wanted then action s.consume else .next (State.raise code s.consume)
  else .next s

end Sys2Proof.Machine
end

