-- ==== Sys2Proof/Machine/Display.lean ====
section
/-!
DEFINITION. Machine/Display.lean: the meanings of SET_PIXEL, GRID_WRITE and UPDATE_FRAME (43_display_controller.md).
-/

namespace Sys2Proof.Machine

/-- SET_PIXEL from check 3 of 60 R116 on (43 R92). -/
def startPixel (row col : BitVec 8) (val : Bool) (s : State) : Host.Outcome State Fault Refusal :=
  if inGrid s.build row.toNat col.toNat then
    .next (State.begin (pixelSeq s.build val (row.toNat, col.toNat)) s)
  else .next (State.raise .range s)

/-- SET_PIXEL (43 R92). -/
def execSetPixel (row col : BitVec 8) (val : Bool) (s : State) : Host.Outcome State Fault Refusal :=
  accept true .noInit (startPixel row col val) s

/-- GRID_WRITE (43 R94). -/
def execGridWrite (r c : BitVec 5) (v : Bool) (s : State) : Host.Outcome State Fault Refusal :=
  if inGrid s.build r.toNat c.toNat then
    .next (State.retire (State.gridWrite r.toNat c.toNat v s))
  else .next (State.raise .illegalUop s)

/-- UPDATE_FRAME from check 3 of 60 R116 on (43 R101). -/
def startFrame (s : State) : Host.Outcome State Fault Refusal :=
  if frameFits s.build s.frame then
    match s.diff with
    | some ds => .next (State.drawn s.sweepDraws (State.begin (s.sweepSeq ds) s))
    | none => .refused .unwrittenCell
  else .next (State.raise .frameDim s)

/-- UPDATE_FRAME (43 R101). -/
def execUpdateFrame (s : State) : Host.Outcome State Fault Refusal :=
  accept true .noInit startFrame s

end Sys2Proof.Machine
end

