-- ==== Sys2Proof/Machine/EnableDecoder.lean ====
section
/-!
DEFINITION. Machine/EnableDecoder.lean: the meanings of ED_SET_ROW_OUTPUT, ED_SET_COL_OUTPUT, ENABLE_CHANNEL and
DISABLE_CHANNEL (41_enable_decoder.md).
-/

namespace Sys2Proof.Machine

/-- ED_SET_ROW_OUTPUT (41 R74). -/
def execEdSetRowOutput (g : BitVec 2) (p : BitVec 4) (s : State) : Host.Outcome State Fault Refusal :=
  .next (State.expand (edRowExpansion g p) s)

/-- ED_SET_COL_OUTPUT (41 R75). -/
def execEdSetColOutput (g : BitVec 2) (p : BitVec 4) (s : State) : Host.Outcome State Fault Refusal :=
  .next (State.expand (edColExpansion g p) s)

/-- Write v to the enable line of channel cc, by expansion (41 R76, R77). -/
def driveChannel (cc : BitVec 2) (v : Bool) (s : State) : Host.Outcome State Fault Refusal :=
  match channelLine cc with
  | none => .next (State.raise .illegalUop s)
  | some k => .next (State.expand [wordPinWrite k v] s)

/-- ENABLE_CHANNEL (41 R76): asserted is logical 1. -/
def execEnableChannel (cc : BitVec 2) (s : State) : Host.Outcome State Fault Refusal :=
  driveChannel cc true s

/-- DISABLE_CHANNEL (41 R77): deasserted is logical 0. -/
def execDisableChannel (cc : BitVec 2) (s : State) : Host.Outcome State Fault Refusal :=
  driveChannel cc false s

end Sys2Proof.Machine
end

