-- ==== Sys2Proof/Machine/Init.lean ====
section
/-!
DEFINITION. Machine/Init.lean: the meanings of INIT, PIN_CONFIG, GRID_CLEAR and INIT_DONE (44_init.md).
-/

namespace Sys2Proof.Machine

/-- INIT after its checks (44 R108). -/
def startInit (pulse : BitVec 32) (mode : SweepMode) (s : State) : Host.Outcome State Fault Refusal :=
  .next (State.begin (initSeq s.build) (State.setConfig pulse mode s))

/-- INIT (44 R108). -/
def execInit (pulse : BitVec 32) (mode : SweepMode) (s : State) : Host.Outcome State Fault Refusal :=
  accept false .reInit (startInit pulse mode) s

/-- Every present line is configured, with its event, in ascending order (44 R109). -/
def State.configureLines (s : State) : State :=
  { s with
    pinCfg := Vector.ofFn fun k : Line => s.build.present k || s.pinCfg[k.val]
    trace := s.trace ++ (allLines.filter s.build.present).map Event.configure }

/-- The platform refused: a free subset of the present lines is configured (44 R109; free values from number n on). -/
def State.configureSome (n : Nat) (s : State) : State :=
  { s with
    pinCfg := Vector.ofFn fun k : Line =>
      if s.build.present k then Config.freeBool (n + k.val) else s.pinCfg[k.val] }

/-- PIN_CONFIG (44 R109): the first free value says whether the platform configures the lines; when it refuses, fourteen
more say which lines it configured (log 4). -/
def execPinConfig (s : State) : Host.Outcome State Fault Refusal :=
  .next (if Config.freeBool s.draws then State.retire (State.drawn 1 s.configureLines)
    else State.raise .pinCfg (State.drawn 15 (State.configureSome (s.draws + 1) s)))

/-- GRID_CLEAR (44 R110). -/
def execGridClear (s : State) : Host.Outcome State Fault Refusal :=
  .next (State.retire s.clearGrid)

/-- INIT_DONE (44 R111). -/
def execInitDone (s : State) : Host.Outcome State Fault Refusal :=
  .next (State.retire (State.setInitialized true s))

end Sys2Proof.Machine
end

