-- ==== Sys2Proof/Machine/LineDecoder.lean ====
section
/-!
DEFINITION. Machine/LineDecoder.lean: the meanings of PIN_WRITE and LD_SET_OUTPUT (40_line_decoder.md).
-/

namespace Sys2Proof.Machine

/-- PIN_WRITE (40 R63). -/
def execPinWrite (k : BitVec 4) (v : Bool) (s : State) : Host.Outcome State Fault Refusal :=
  match lineOf s.build k with
  | none => .next (State.raise .illegalUop s)
  | some line =>
    if s.pinCfg[line.val] then .next (State.retire (State.pinWrite line v s))
    else .refused .unconfiguredLine

/-- LD_SET_OUTPUT (40 R68). -/
def execLdSetOutput (d : Decoder) (p : BitVec 4) (s : State) : Host.Outcome State Fault Refusal :=
  .next (State.expand (ldExpansion s.build d p) s)

end Sys2Proof.Machine
end

