-- ==== Sys2Proof/Machine/Timer.lean ====
section
/-!
DEFINITION. Machine/Timer.lean: the meaning of DELAY (42_timer.md).
-/

namespace Sys2Proof.Machine

/-- A finished wait of a kind: its length is the minimum plus a free overrun (42 R80, R81; log 4). -/
def State.waited (kind : DelayKind) (s : State) : State :=
  State.drawn 1
    (State.emit (.wait kind (s.minimumUs kind) (s.minimumUs kind + Config.freeOverrun s.draws)) s)

/-- DELAY (42 R80). -/
def execDelay (tt : BitVec 2) (s : State) : Host.Outcome State Fault Refusal :=
  match delayKindOf tt with
  | none => .next (State.raise .illegalUop s)
  | some kind => .next (State.retire (State.waited kind s))

end Sys2Proof.Machine
end

