-- ==== Sys2Proof/Machine/Dispatch.lean ====
section
/-!
DEFINITION. Machine/Dispatch.lean: one arm per constructor of Instr, each a direct call of its meaning.
-/

namespace Sys2Proof.Machine

def exec (i : Instr) (s : State) : Host.Outcome State Fault Refusal :=
  match i with
  | .init pulse mode => Sys2Proof.Machine.execInit pulse mode s
  | .setPixel row col val => Sys2Proof.Machine.execSetPixel row col val s
  | .updateFrame => Sys2Proof.Machine.execUpdateFrame s
  | .pinWrite k v => Sys2Proof.Machine.execPinWrite k v s
  | .ldSetOutput d p => Sys2Proof.Machine.execLdSetOutput d p s
  | .edSetRowOutput g p => Sys2Proof.Machine.execEdSetRowOutput g p s
  | .edSetColOutput g p => Sys2Proof.Machine.execEdSetColOutput g p s
  | .enableChannel cc => Sys2Proof.Machine.execEnableChannel cc s
  | .disableChannel cc => Sys2Proof.Machine.execDisableChannel cc s
  | .delay tt => Sys2Proof.Machine.execDelay tt s
  | .gridWrite r c v => Sys2Proof.Machine.execGridWrite r c v s
  | .pinConfig => Sys2Proof.Machine.execPinConfig s
  | .gridClear => Sys2Proof.Machine.execGridClear s
  | .initDone => Sys2Proof.Machine.execInitDone s

end Sys2Proof.Machine
end

