-- ==== Sys2Proof/Machine/Turn.lean ====
section
/-!
DEFINITION. Machine/Turn.lean: what one turn does: the core performs one micro-operation, accepts one command or waits
(10_state.md R31, 60_exceptions.md R116, R120), or the host acts (70_reset_and_hazards.md R140).
-/

namespace Sys2Proof.Machine

/-- Perform a word: the meaning of the instruction it decodes to, or the fault of an illegal word. -/
def performWord (c : Code) (s : State) : Host.Outcome State Fault Refusal :=
  match decode c with
  | .ok i => exec i s
  | .error _ => .next (s.rejectWord c)

/-- A turn of the core. A faulted core takes no step (60 R120); a core with nothing to perform waits (70 R140). -/
def coreTurn (s : State) : Host.Outcome State Fault Refusal :=
  if s.faulted then .next s
  else
    match s.fetch with
    | some c => performWord c s
    | none => .next s

/-- One turn. The script says whose it is; when the script is empty it is the core's, and a faulted core, which no
reset can free any more, stops the machine (log 6, log 10). -/
def takeTurn (s : State) : Host.Outcome State Fault Refusal :=
  match s.script with
  | [] => if s.faulted then .fault (.stopped s.faultCode) else coreTurn s
  | .core :: rest => coreTurn { s with script := rest }
  | .host a :: rest => .next (State.hostAct a { s with script := rest })

end Sys2Proof.Machine
end

