-- ==== Sys2Proof/Machine/Step.lean ====
section
/-!
DEFINITION. Machine/Step.lean: one step of the machine, and a state that runs a given word next.
-/

namespace Sys2Proof.Machine

/-- One step: one turn of the core or of the host (10 R18). -/
def step (s : State) : Host.Outcome State Fault Refusal := takeTurn s

/-- s with the instruction of the opcode table's word w placed where step takes its next one (log 14). -/
def State.withFetchWord (s : State) (nbits w : Nat) : State := s.placeWord (codeOfTable nbits w)

end Sys2Proof.Machine
end

