-- ==== Sys2Proof/Machine/Observe.lean ====
section
/-!
DEFINITION. Machine/Observe.lean: what the outside can observe: levels, GPIO lines and output ports (10_state.md R23,
R25, R35), the addressed position and tuple (40_line_decoder.md R70, 41_enable_decoder.md R79). Nothing here changes a
state, and no rule of the core reads it.
-/

namespace Sys2Proof.Machine

/-- A physical level (10 R25). -/
inductive Level where
  /-- `Z`: not driven by the core -/
  | z
  /-- driven by the core at level v -/
  | driven (v : Bool)
  deriving DecidableEq, Repr

/-- `phys(k)` (10 R25), as observation number n sees it. `X` is the draw of a Boolean: a driven level that is a free
value of the observation (log 5). -/
def State.phys (s : State) (n : Nat) (k : Line) : Level :=
  if s.pinCfg[k.val] then
    match s.pinOut[k.val] with
    | none => .driven (Config.freeLevel s n k.val)
    | some v => .driven (physicalOf s.build k v)
  else .z

/-- The level the core puts on GPIO line g (10 R23), as observation number n sees it: that of the present line whose
`LINE_ID` is g. -/
def State.gpio (s : State) (n g : Nat) : Level :=
  match allLines.find? fun k => s.build.present k && s.build.lineId[k.val] == some g with
  | some k => s.phys n k
  | none => .z

/-- The lines A0, A1, A2, A3 of a decoder: base line 0 or 4 (40 R65). -/
def decoderLine (d : Decoder) (i : Fin 4) : Line :=
  match d with
  | .row => ⟨i.val, by omega⟩
  | .col => ⟨4 + i.val, by omega⟩

/-- `ld_view(d)` (40 R70): defined when every latch it reads holds a value. -/
def State.ldView (s : State) (d : Decoder) : Option (BitVec 4) := do
  let a0 ← s.pinOut[(decoderLine d 0).val]
  let a1 ← s.pinOut[(decoderLine d 1).val]
  let a2 ← s.pinOut[(decoderLine d 2).val]
  let p3 ← if a3Present s.build d then (s.pinOut[(decoderLine d 3).val]).map (!·) else some false
  return BitVec.ofBool p3 ++ BitVec.ofBool a2 ++ BitVec.ofBool a1 ++ BitVec.ofBool a0

/-- The addressed tuple (41 R79). -/
structure Addressed where
  rowGroup : BitVec 2
  rowPos : BitVec 4
  colGroup : BitVec 2
  colPos : BitVec 4
  rowEnable : Bool
  deriving DecidableEq, Repr

/-- `addressed()` (41 R79): defined when every latch it reads holds a value. -/
def State.addressed (s : State) : Option Addressed := do
  let g10 ← s.pinOut[8]
  let g11 ← s.pinOut[9]
  let g20 ← s.pinOut[10]
  let g21 ← s.pinOut[11]
  let e1 ← s.pinOut[12]
  let rowPos ← s.ldView .row
  let colPos ← s.ldView .col
  return {
    rowGroup := BitVec.ofBool g11 ++ BitVec.ofBool g10
    rowPos := rowPos
    colGroup := BitVec.ofBool g21 ++ BitVec.ofBool g20
    colPos := colPos
    rowEnable := e1 }

/-- `cmd_ready` (10 R35). -/
def State.cmdReady (s : State) : Bool := s.ready

/-- `cfg_q` = CFG_SWEEP, CFG_PULSE_US (10 R35): meaningful only when `INITIALIZED` = 1. -/
def State.cfgQ (s : State) : Option (BitVec 34) :=
  if s.initialized then some (s.cfgSweep.bits ++ s.cfgPulseUs) else none

/-- The number whose bit r * WIDTH + c is the grid's bit, over the listed cells; `none` if one has no value (20 R41). -/
def gridNumber (s : State) : List (Nat × Nat) → Option Nat
  | [] => some 0
  | (r, c) :: rest => do
    let v ← s.gridRead r c
    let n ← gridNumber s rest
    return n + (if v then 2 ^ cellNumber s.build r c else 0)

/-- `grid_q` (10 R35): meaningful only when `INITIALIZED` = 1 and `BUSY` = 0. -/
def State.gridQ (s : State) : Option Nat :=
  if s.initialized && !s.busy then gridNumber s (cells s.build) else none

end Sys2Proof.Machine
end

