-- ==== Sys2Proof/Safety.lean ====
section
/-!
DEFINITION. Safety.lean: what counts as a successful end of a run (70_reset_and_hazards.md R131), the discipline of the
pulse line (70 R132, 42_timer.md R82, R83), and the invariant of the model.
-/

namespace Sys2Proof.Machine

/-- The turn puts a command on the `cmd` port. -/
def Turn.presentsCommand : Turn → Bool
  | .core => false
  | .host (.driveCmd w) => w.isSome
  | .host (.driveFrame _) => false
  | .host .reset => false
  | .host .read => false

/-- A run of the core ends successfully (70 R131). DESIGN CHOICE, log 21: "the host presents no further command" is read
over the model's own script as: no command is on the port, and no turn still to come puts one there. Turns of the core,
reads, frames and `rst` may be left. -/
def State.EndsSuccessfully (s : State) : Prop :=
  s.seq = [] ∧ s.faulted = false ∧ s.initialized = true ∧ s.cmd = none ∧
  ∀ a ∈ s.script, a.presentsCommand = false

/-- `STATUS` once the head of `SEQ` has been performed: the step that empties `SEQ` clears `BUSY` (10 R27, R31). -/
def State.statusPopped (s : State) : BitVec 32 :=
  if s.seq.tail = [] then s.status &&& 0xFFFFFFFE#32 else s.status

/-! ### Pin writes and waits, done and still to come -/

/-- What can be seen on the pins: a write of a logical value to line k, or a wait. -/
inductive Act where
  | write (k : Nat) (v : Bool)
  | wait (kind : DelayKind)
  deriving DecidableEq, Repr

def Event.act? : Event → Option Act
  | .configure _ => none
  | .level k _ v _ => some (.write k.val v)
  | .wait kind _ _ => some (.wait kind)
  | .fault _ => none

/-- The act of a primitive micro-operation word, if it has one. -/
def wordAct? (w : UopWord) : Option Act :=
  match decodeUop w with
  | .ok (.pinWrite k v) => some (.write k.toNat v)
  | .ok (.delay tt) => (delayKindOf tt).map Act.wait
  | _ => none

/-- One round of expansion of a compound micro-operation word (30 R60); other words stay. -/
def expandWord (b : Build) (w : UopWord) : List UopWord :=
  match decodeUop w with
  | .ok (.ldSetOutput d p) => ldExpansion b d p
  | .ok (.edSetRowOutput g p) => edRowExpansion g p
  | .ok (.edSetColOutput g p) => edColExpansion g p
  | .ok (.enableChannel cc) =>
    match channelLine cc with
    | some k => [wordPinWrite k true]
    | none => [w]
  | .ok (.disableChannel cc) =>
    match channelLine cc with
    | some k => [wordPinWrite k false]
    | none => [w]
  | _ => [w]

/-- The primitive words a list of words ends in; two rounds are enough (30 R60). -/
def primitives (b : Build) (ws : List UopWord) : List UopWord :=
  ws.flatMap fun w => (expandWord b w).flatMap (expandWord b)

/-- The acts in the trace, oldest first. -/
def State.actsDone (s : State) : List Act := s.trace.filterMap Event.act?

/-- The acts that `SEQ` will still perform. -/
def State.actsToCome (s : State) : List Act := (primitives s.build s.seq).filterMap wordAct?

/-- All acts since reset, done and to come. -/
def State.acts (s : State) : List Act := s.actsDone ++ s.actsToCome

/-- The number of E2 assertions, that is of pulses (43 R103). -/
def pulseCount (as : List Act) : Nat := as.count (.write 13 true)

/-- The microseconds the waits among the events took (42 R81). -/
def elapsedUs (es : List Event) : Nat :=
  (es.map fun e => match e with
    | .wait _ _ actual => actual
    | _ => 0).sum

/-- Where the pulse line stands. -/
inductive PulsePhase where
  /-- deasserted or never written, and the last pulse has recovered -/
  | off
  /-- asserted, the pulse wait still to come -/
  | asserted
  /-- asserted, the pulse wait over -/
  | held
  /-- deasserted, the recovery wait still to come -/
  | recovering
  deriving DecidableEq, Repr

/-- The discipline: between the assertion and the deassertion of E2 there is DELAY PULSE and nothing else (42 R82), and
right after it DELAY RECOVERY (42 R83); so address and group lines are written only while E2 is off (70 R132). `none` is
a breach. -/
def PulsePhase.next : PulsePhase → Act → Option PulsePhase
  | .off, .write k v => if k = 13 ∧ v = true then some .asserted else some .off
  | .off, .wait _ => some .off
  | .asserted, .wait .pulse => some .held
  | .asserted, _ => none
  | .held, .write k v => if k = 13 ∧ v = false then some .recovering else none
  | .held, .wait _ => none
  | .recovering, .wait .recovery => some .off
  | .recovering, _ => none

def PulsePhase.after : PulsePhase → List Act → Option PulsePhase
  | p, [] => some p
  | p, a :: as =>
    match p.next a with
    | some q => q.after as
    | none => none

/-- The trace keeps the discipline, `SEQ` will complete it, and the latch of E2 agrees with it. -/
def State.PulseDisciplined (s : State) : Prop :=
  PulsePhase.off.after s.acts = some .off ∧
  ∃ p, PulsePhase.off.after s.actsDone = some p ∧
    ((p = .asserted ∨ p = .held) ↔ s.pinOut[13] = some true)

/-! ### The invariant -/

/-- Nothing has been configured, written or traced yet. -/
def State.Fresh (s : State) : Prop :=
  (∀ k : Line, s.pinCfg[k.val] = false ∧ s.pinOut[k.val] = none) ∧ s.grid = [] ∧ s.trace = []

/-- Every present line is configured. -/
def State.Configured (s : State) : Prop :=
  ∀ k : Line, s.build.present k = true → s.pinCfg[k.val] = true

/-- Every cell has a value. -/
def State.GridComplete (s : State) : Prop :=
  ∀ r c : Nat, inGrid s.build r c = true → (s.gridRead r c).isSome = true

/-- A legal word of a micro-operation other than PIN_CONFIG, GRID_CLEAR and INIT_DONE. -/
def plainWord (b : Build) (w : UopWord) : Bool :=
  match decodeUop w with
  | .ok .pinConfig => false
  | .ok .gridClear => false
  | .ok .initDone => false
  | .ok i => WellFormed b i
  | .error _ => false

/-- The stages of the core's life: stopped by a fault; before or at the start of INIT; inside INIT, first with the grid
still to be cleared; after INIT (44 R108 to R113, 60 R115). -/
inductive State.Life (s : State) : Prop where
  | stopped (h : s.faulted = true) (hseq : s.seq = [])
  | fresh (hf : s.faulted = false) (hi : s.initialized = false) (h : s.Fresh)
      (hseq : s.seq = [] ∨ ∃ ws : List UopWord, (∀ w ∈ ws, plainWord s.build w = true) ∧
        s.seq = wordPinConfig :: wordGridClear :: (ws ++ [wordInitDone]))
  | clearing (hf : s.faulted = false) (hi : s.initialized = false) (h : s.Configured)
      (hseq : ∃ ws : List UopWord, (∀ w ∈ ws, plainWord s.build w = true) ∧
        s.seq = wordGridClear :: (ws ++ [wordInitDone]))
  | starting (hf : s.faulted = false) (hi : s.initialized = false) (h : s.Configured)
      (hg : s.GridComplete)
      (hseq : ∃ ws : List UopWord, (∀ w ∈ ws, plainWord s.build w = true) ∧
        s.seq = ws ++ [wordInitDone])
  | running (hf : s.faulted = false) (hi : s.initialized = true) (h : s.Configured)
      (hg : s.GridComplete) (hseq : ∀ w ∈ s.seq, plainWord s.build w = true)

/-- The invariant every step keeps. -/
structure State.Inv (s : State) : Prop where
  /-- 00 R12, R13 -/
  legal : s.build.Legal
  /-- the grid keeps its canonical form -/
  gridWf : s.grid.wf
  /-- and lists cells of the grid only (10 R29) -/
  gridCells : ∀ p ∈ s.grid, p.1 < s.build.height * s.build.width
  /-- reserved bits of STATUS read 0 (10 R27) -/
  reserved : s.status &&& 0xFFFFFF08#32 = 0#32
  /-- `FAULT_CODE` is 0 when `FAULTED` = 0, else the number of a fault (10 R27, 60 R114) -/
  noCode : s.faulted = false → s.faultCode = 0#4
  code : s.faulted = true → ∃ c : FaultCode, s.faultCode = c.number
  /-- 10 R32 -/
  busy : s.busy = true ↔ s.seq ≠ []
  /-- an absent line is neither configured nor written (44 R109, 30 R59) -/
  absent : ∀ k : Line, s.build.present k = false → s.pinCfg[k.val] = false ∧ s.pinOut[k.val] = none
  life : s.Life
  pulse : s.PulseDisciplined

end Sys2Proof.Machine
end

