-- ==== Sys2Proof/Certificates/Slice0/Obligations.lean ====
section
/-!
DEFINITION. Certificates/Slice0/Obligations.lean: the statements for the provers. Each docstring names the rules of
spec/ it formalises. An equation `exec i s = .next { s with … }` is the result and the frame at once: what it does not
name is unchanged, every cell of the grid and every line included.
-/

open Sys2Proof Sys2Proof.Machine

/-! ### Encoding -/

/-- 30 R53, R57: no bit of an encoding is dropped; every field at every value. -/
def Obligations.DecodeOfEncode : Prop :=
  ∀ i : Instr, decode (encode i) = .ok i

/-- 30 R53, R57: no two words mean the same instruction. -/
def Obligations.EncodeOfDecode : Prop :=
  ∀ (c : Code) (i : Instr), decode c = .ok i → encode i = c

/-- 30 R55, R53: which command words are legal, by their fields. -/
def Obligations.LegalCommandWords : Prop :=
  ∀ w : CmdWord, (∃ i, decodeCmd w = .ok i) ↔
    (w.extractLsb' 0 4 = 0x1#4 ∧ w.extractLsb' 6 26 = 0#26) ∨
    (w.extractLsb' 0 4 = 0x2#4 ∧ w.extractLsb' 4 2 = 0#2 ∧ w.getLsbD 7 = false ∧
      w.extractLsb' 24 40 = 0#40) ∨
    (w.extractLsb' 0 4 = 0x3#4 ∧ w.extractLsb' 4 60 = 0#60)

/-- 30 R59, R57: a micro-operation word at the head of SEQ raises F_ILLEGAL_UOP exactly when it is illegal by its fields.
That the head is performed whatever BUSY says is the model's (log 18). -/
def Obligations.IllegalMicroOperationWords : Prop :=
  ∀ (w : UopWord) (s : State), s.faulted = false → s.seq.head? = some w →
    let uc := (w.extractLsb' 12 4).toNat
    let illegal : Prop :=
      uc = 0 ∨ 12 ≤ uc ∨
      (uc = 1 ∧ (w.extractLsb' 1 7 ≠ 0#7 ∨ 13 < (w.extractLsb' 8 4).toNat ∨
        (w.extractLsb' 8 4 = 3#4 ∧ s.build.rowA3 = false) ∨
        (w.extractLsb' 8 4 = 7#4 ∧ s.build.colA3 = false))) ∨
      (uc = 2 ∧ (w.extractLsb' 4 4 ≠ 0#4 ∨ w.extractLsb' 9 3 ≠ 0#3)) ∨
      ((uc = 3 ∨ uc = 4) ∧ w.extractLsb' 6 6 ≠ 0#6) ∨
      ((uc = 5 ∨ uc = 6) ∧ (w.extractLsb' 2 10 ≠ 0#10 ∨ (w.extractLsb' 0 2 ≠ 1#2 ∧ w.extractLsb' 0 2 ≠ 2#2))) ∨
      (uc = 7 ∧ (w.extractLsb' 2 10 ≠ 0#10 ∨ w.extractLsb' 0 2 = 3#2)) ∨
      (uc = 8 ∧ (w.getLsbD 11 = true ∨ s.build.height ≤ (w.extractLsb' 6 5).toNat ∨
        s.build.width ≤ (w.extractLsb' 1 5).toNat)) ∨
      ((uc = 9 ∨ uc = 10 ∨ uc = 11) ∧ w.extractLsb' 0 12 ≠ 0#12)
    (illegal → coreTurn s = .next (State.raise .illegalUop s)) ∧
    (¬ illegal → ∃ i, decodeUop w = .ok i ∧ WellFormed s.build i = true ∧ coreTurn s = exec i s)

/-- A sanity check of words written out from 30 R53 and R57, one per family. -/
def Obligations.SampleWordsDecode : Prop :=
  decodeCmd 0x000009C400000021#64 = .ok (.init 2500#32 .random) ∧
  decodeCmd 0x00000000000A0542#64 = .ok (.setPixel 5#8 10#8 true) ∧
  decodeUop 0x1D01#16 = .ok (.pinWrite 13#4 true) ∧
  decodeUop 0x210F#16 = .ok (.ldSetOutput .col 15#4) ∧
  decodeUop 0x403F#16 = .ok (.edSetColOutput 3#2 15#4) ∧
  decodeUop 0x7001#16 = .ok (.delay 1#2) ∧
  decodeUop 0x8155#16 = .ok (.gridWrite 5#5 10#5 true)

/-! ### Addressing -/

/-- 43 R87: group and offset of every row and column of a legal build. -/
def Obligations.GroupsAndOffsetsFit : Prop :=
  ∀ (b : Build) (r c : Nat), b.Legal → r < b.height → c < b.width →
    groupOf r = r / 7 ∧ offsetOf r = r % 7 ∧ groupOf c = c / 7 ∧ offsetOf c = c % 7 ∧
    groupOf r ≤ 3 ∧ groupOf c ≤ 3 ∧ offsetOf r ≤ 6 ∧ offsetOf c ≤ 6 ∧
    (b.height = 13 → b.width = 28 → groupOf r ≤ 1)

/-- 43 R88, R89: the output position, its ranges, and that it is never an idle position. -/
def Obligations.OutputPositionRanges : Prop :=
  ∀ (b : Build) (o : Nat) (v : Bool), o ≤ 6 →
    valueIsReset b v = (if b.trueIsSet then !v else v) ∧
    position b o v = o + 1 + (if valueIsReset b v then 8 else 0) ∧
    (valueIsReset b v = false → 1 ≤ position b o v ∧ position b o v ≤ 7) ∧
    (valueIsReset b v = true → 9 ≤ position b o v ∧ position b o v ≤ 15)

/-- 43 R90: the seven micro-operations of a pixel sequence, each with its operands. -/
def Obligations.PixelSequenceHasSevenOperations : Prop :=
  ∀ (b : Build) (r c : Nat) (v : Bool), b.Legal → r < b.height → c < b.width →
    (pixelSeq b v (r, c)).map decodeUop =
      [.ok (.edSetRowOutput (BitVec.ofNat 2 (r / 7)) (BitVec.ofNat 4 (position b (r % 7) v))),
       .ok (.edSetColOutput (BitVec.ofNat 2 (c / 7)) (BitVec.ofNat 4 (position b (c % 7) v))),
       .ok (.enableChannel 2#2), .ok (.delay 0#2), .ok (.disableChannel 2#2), .ok (.delay 1#2),
       .ok (.gridWrite (BitVec.ofNat 5 r) (BitVec.ofNat 5 c) v)] ∧
    (BitVec.ofNat 2 (r / 7)).toNat = r / 7 ∧ (BitVec.ofNat 2 (c / 7)).toNat = c / 7 ∧
    (BitVec.ofNat 4 (position b (r % 7) v)).toNat = position b (r % 7) v ∧
    (BitVec.ofNat 4 (position b (c % 7) v)).toNat = position b (c % 7) v ∧
    (BitVec.ofNat 5 r).toNat = r ∧ (BitVec.ofNat 5 c).toNat = c

/-- 43 R91 (an inference the spec marks as its own): the pin writes and waits a pixel sequence performs, in order. -/
def Obligations.PixelSequenceActs : Prop :=
  ∀ (b : Build) (r c : Nat) (v : Bool), b.Legal → r < b.height → c < b.width →
    let rp := position b (r % 7) v
    let cp := position b (c % 7) v
    (primitives b (pixelSeq b v (r, c))).filterMap wordAct? =
      [.write 8 ((r / 7).testBit 0), .write 9 ((r / 7).testBit 1),
       .write 2 (rp.testBit 2), .write 1 (rp.testBit 1), .write 0 (rp.testBit 0)] ++
      (if b.rowA3 then [.write 3 (!rp.testBit 3)] else []) ++
      [.write 10 ((c / 7).testBit 0), .write 11 ((c / 7).testBit 1),
       .write 6 (cp.testBit 2), .write 5 (cp.testBit 1), .write 4 (cp.testBit 0)] ++
      (if b.colA3 then [.write 7 (!cp.testBit 3)] else []) ++
      [.write 13 true, .wait .pulse, .write 13 false, .wait .recovery]

/-! ### Lines -/

/-- 10 R25: the physical level of every line, at every observation. That `X` is a free value of the observation is the
model's form of the spec's draw (log 5); the statement says only that such a line is driven, at some level. -/
def Obligations.PhysicalLevelOfEveryLine : Prop :=
  ∀ (s : State) (n : Nat) (k : Line),
    (s.pinCfg[k.val] = false → s.phys n k = .z) ∧
    (s.pinCfg[k.val] = true → s.pinOut[k.val] = none → ∃ v, s.phys n k = .driven v) ∧
    (∀ v, s.pinCfg[k.val] = true → s.pinOut[k.val] = some v →
      s.phys n k = .driven (v ^^ s.build.pinInv[k.val]))

/-- 10 R23: the GPIO output mux, at every observation n. -/
def Obligations.GpioLinesCarryTheirLine : Prop :=
  ∀ (s : State) (n : Nat), s.build.Legal →
    (∀ (k : Line) (g : Nat), s.build.present k = true → s.build.lineId[k.val] = some g →
      s.gpio n g = s.phys n k) ∧
    (∀ g : Nat, (∀ k : Line, s.build.lineId[k.val] ≠ some g) → s.gpio n g = .z)

/-- 40 R63: PIN_WRITE, its encoding, its effect, its illegal forms and the form the model refuses. -/
def Obligations.PinWriteLatchesAndEmits : Prop :=
  ∀ (k : BitVec 4) (v : Bool),
    decodeUop (0x1000#16 ||| (k.setWidth 16 <<< 8) ||| (BitVec.ofBool v).setWidth 16) = .ok (.pinWrite k v) ∧
    ∀ s : State,
      (∀ line : Line, k.toNat = line.val → s.build.present line = true → s.pinCfg[line.val] = true →
        exec (.pinWrite k v) s = .next { s with
          pinOut := s.pinOut.set line.val (some v)
          trace := s.trace ++ [.level line s.build.lineId[line.val] v (v ^^ s.build.pinInv[line.val])]
          seq := s.seq.tail
          status := s.statusPopped }) ∧
      (∀ line : Line, k.toNat = line.val → s.build.present line = true → s.pinCfg[line.val] = false →
        exec (.pinWrite k v) s = .refused .unconfiguredLine) ∧
      ((13 < k.toNat ∨ (k = 3#4 ∧ s.build.rowA3 = false) ∨ (k = 7#4 ∧ s.build.colA3 = false)) →
        exec (.pinWrite k v) s = .next (State.raise .illegalUop s))

/-- 40 R68, R67: LD_SET_OUTPUT on both decoders, with and without A3. -/
def Obligations.LdSetOutputExpands : Prop :=
  ∀ (d : Decoder) (p : BitVec 4),
    decodeUop (0x2000#16 ||| (match d with | .row => 0#16 | .col => 0x0100#16) ||| p.setWidth 16) =
      .ok (.ldSetOutput d p) ∧
    ∀ s : State,
      let a (i : Nat) : BitVec 4 := match d with | .row => BitVec.ofNat 4 i | .col => BitVec.ofNat 4 (4 + i)
      let present3 : Bool := match d with | .row => s.build.rowA3 | .col => s.build.colA3
      exec (.ldSetOutput d p) s = .next { s with
        seq := [wordPinWrite (a 2) (p.getLsbD 2), wordPinWrite (a 1) (p.getLsbD 1),
            wordPinWrite (a 0) (p.getLsbD 0)] ++
          (if present3 then [wordPinWrite (a 3) (!p.getLsbD 3)] else []) ++ s.seq.tail }

/-- 40 R70 (an inference the spec marks as its own): running LD_SET_OUTPUT to its end leaves the decoder's lines showing
the position, less its bit 3 where there is no A3. -/
def Obligations.LdSetOutputIsSeenOnTheLines : Prop :=
  ∀ (s : State) (d : Decoder) (p : BitVec 4) (rest : List UopWord),
    s.script = [] → s.faulted = false → s.Configured → s.seq = wordLdSetOutput d p :: rest →
    ∃ t, core.run (if a3Present s.build d then 5 else 4) s = .next t ∧ t.seq = rest ∧
      t.ldView d = some (if a3Present s.build d then p else p &&& 7#4) ∧
      t.grid = s.grid ∧
      ∀ k : Line, (∀ i : Fin 4, k ≠ decoderLine d i) → t.pinOut[k.val] = s.pinOut[k.val]

/-- 41 R74: ED_SET_ROW_OUTPUT. -/
def Obligations.EdSetRowOutputExpands : Prop :=
  ∀ (g : BitVec 2) (p : BitVec 4),
    decodeUop (0x3000#16 ||| (g.setWidth 16 <<< 4) ||| p.setWidth 16) = .ok (.edSetRowOutput g p) ∧
    ∀ s : State, exec (.edSetRowOutput g p) s = .next { s with
      seq := wordPinWrite 8#4 (g.getLsbD 0) :: wordPinWrite 9#4 (g.getLsbD 1) ::
        wordLdSetOutput .row p :: s.seq.tail }

/-- 41 R75: ED_SET_COL_OUTPUT. -/
def Obligations.EdSetColOutputExpands : Prop :=
  ∀ (g : BitVec 2) (p : BitVec 4),
    decodeUop (0x4000#16 ||| (g.setWidth 16 <<< 4) ||| p.setWidth 16) = .ok (.edSetColOutput g p) ∧
    ∀ s : State, exec (.edSetColOutput g p) s = .next { s with
      seq := wordPinWrite 10#4 (g.getLsbD 0) :: wordPinWrite 11#4 (g.getLsbD 1) ::
        wordLdSetOutput .col p :: s.seq.tail }

/-- 41 R76: ENABLE_CHANNEL, its two channels and its illegal forms. -/
def Obligations.EnableChannelAsserts : Prop :=
  ∀ cc : BitVec 2, decodeUop (0x5000#16 ||| cc.setWidth 16) = .ok (.enableChannel cc) ∧
    ∀ s : State,
      ((cc = 1#2 ∨ cc = 2#2) → exec (.enableChannel cc) s = .next { s with
        seq := wordPinWrite (BitVec.ofNat 4 (11 + cc.toNat)) true :: s.seq.tail }) ∧
      ((cc = 0#2 ∨ cc = 3#2) → exec (.enableChannel cc) s = .next (State.raise .illegalUop s))

/-- 41 R77: DISABLE_CHANNEL, its two channels and its illegal forms. -/
def Obligations.DisableChannelDeasserts : Prop :=
  ∀ cc : BitVec 2, decodeUop (0x6000#16 ||| cc.setWidth 16) = .ok (.disableChannel cc) ∧
    ∀ s : State,
      ((cc = 1#2 ∨ cc = 2#2) → exec (.disableChannel cc) s = .next { s with
        seq := wordPinWrite (BitVec.ofNat 4 (11 + cc.toNat)) false :: s.seq.tail }) ∧
      ((cc = 0#2 ∨ cc = 3#2) → exec (.disableChannel cc) s = .next (State.raise .illegalUop s))

/-! ### Timer -/

/-- 42 R80, R81: DELAY. The length is a free value (log 4): the statement holds for every value it may take. -/
def Obligations.DelayWaitsAtLeastItsMinimum : Prop :=
  ∀ tt : BitVec 2, decodeUop (0x7000#16 ||| tt.setWidth 16) = .ok (.delay tt) ∧
    ∀ s : State,
      (tt = 3#2 → exec (.delay tt) s = .next (State.raise .illegalUop s)) ∧
      (∀ (kind : DelayKind) (min : Nat),
        (tt = 0#2 ∧ kind = .pulse ∧ min = s.cfgPulseUs.toNat) ∨
        (tt = 1#2 ∧ kind = .recovery ∧ min = s.build.recoveryUs) ∨
        (tt = 2#2 ∧ kind = .settle ∧ min = s.build.settleUs) →
        ∃ actual draws : Nat, min ≤ actual ∧ exec (.delay tt) s = .next { s with
          trace := s.trace ++ [.wait kind min actual]
          seq := s.seq.tail
          status := s.statusPopped
          draws := draws })

/-! ### The grid -/

/-- 43 R94, 20 R40: GRID_WRITE, what every cell reads after it, what it leaves, and its illegal forms. -/
def Obligations.GridWriteSetsOneCell : Prop :=
  ∀ (r c : BitVec 5) (v : Bool),
    decodeUop (0x8000#16 ||| (r.setWidth 16 <<< 6) ||| (c.setWidth 16 <<< 1) ||| (BitVec.ofBool v).setWidth 16) =
      .ok (.gridWrite r c v) ∧
    ∀ s : State,
      (r.toNat < s.build.height → c.toNat < s.build.width →
        ∃ t, exec (.gridWrite r c v) s = .next t ∧
          t.gridRead r.toNat c.toNat = some v ∧
          (∀ r' c' : Nat, (r', c') ≠ (r.toNat, c.toNat) → t.gridRead r' c' = s.gridRead r' c') ∧
          t = { s with grid := t.grid, seq := s.seq.tail, status := s.statusPopped }) ∧
      ((s.build.height ≤ r.toNat ∨ s.build.width ≤ c.toNat) →
        exec (.gridWrite r c v) s = .next (State.raise .illegalUop s))

/-- 44 R110: GRID_CLEAR. -/
def Obligations.GridClearZeroesEveryCell : Prop :=
  decodeUop 0xA000#16 = .ok .gridClear ∧
  ∀ s : State, ∃ t, exec .gridClear s = .next t ∧
    (∀ r c : Nat, r < s.build.height → c < s.build.width → t.gridRead r c = some false) ∧
    t = { s with grid := t.grid, seq := s.seq.tail, status := s.statusPopped }

/-- 43 R96: the diff is the row-major list of the cells that differ. -/
def Obligations.DiffIsRowMajorListOfDifferences : Prop :=
  ∀ s : State, s.GridComplete → ∃ ds, s.diff = some ds ∧
    (∀ r c : Nat, (r, c) ∈ ds ↔ r < s.build.height ∧ c < s.build.width ∧
      s.gridRead r c ≠ some (frameBit s.frame r c)) ∧
    ds.Pairwise fun a b => a.1 < b.1 ∨ (a.1 = b.1 ∧ a.2 < b.2)

/-- 43 R97, R98, R100: the order under RowMajor, ColumnMajor and Diagonal. -/
def Obligations.SweepOrders : Prop :=
  ∀ (s : State) (ds : List (Nat × Nat)),
    (s.cfgSweep = .rowMajor → s.sweepOrder ds = ds) ∧
    (s.cfgSweep = .diagonal → s.sweepOrder ds = ds) ∧
    (s.cfgSweep = .columnMajor →
      (s.sweepOrder ds).Perm ds ∧
      (s.sweepOrder ds).Pairwise (fun a b => a.2 ≤ b.2) ∧
      ∀ c : Nat, (s.sweepOrder ds).filter (fun a => a.2 == c) = ds.filter (fun a => a.2 == c))

/-- 43 R99: under Random the order is a permutation of the diff, whatever the free value is (log 4). -/
def Obligations.RandomSweepIsAPermutation : Prop :=
  ∀ (s : State) (ds : List (Nat × Nat)), s.cfgSweep = .random → (s.sweepOrder ds).Perm ds

/-! ### Initialisation -/

/-- 44 R109: PIN_CONFIG configures every present line, or the platform refuses and F_PINCFG is raised. -/
def Obligations.PinConfigConfiguresOrFaults : Prop :=
  decodeUop 0x9000#16 = .ok .pinConfig ∧
  ∀ s : State, ∃ t, exec .pinConfig s = .next t ∧
    ((∃ cfg : Vector Bool 14, ∃ draws : Nat,
        (∀ k : Line, cfg[k.val] = if s.build.present k then true else s.pinCfg[k.val]) ∧
        t = { s with
          pinCfg := cfg
          trace := s.trace ++ ((List.finRange 14).filter fun k => s.build.present k).map Event.configure
          seq := s.seq.tail
          status := s.statusPopped
          draws := draws }) ∨
     (∃ cfg : Vector Bool 14, ∃ draws : Nat,
        (∀ k : Line, s.build.present k = false → cfg[k.val] = s.pinCfg[k.val]) ∧
        t = State.raise .pinCfg { s with pinCfg := cfg, draws := draws }))

/-- 44 R111: INIT_DONE. -/
def Obligations.InitDoneSetsInitialized : Prop :=
  decodeUop 0xB000#16 = .ok .initDone ∧
  ∀ s : State, ∃ t, exec .initDone s = .next t ∧ t.initialized = true ∧
    t.faulted = s.faulted ∧ t.faultCode = s.faultCode ∧
    t.busy = (if s.seq.tail = [] then false else s.busy) ∧
    t = { s with seq := s.seq.tail, status := t.status }

/-! ### Acceptance -/

/-- 44 R108: INIT on an idle, uninitialised core. That acceptance clears the port is the model's (log 15). -/
def Obligations.InitIsAccepted : Prop :=
  ∀ (s : State) (pulse : BitVec 32) (mode : SweepMode),
    s.busy = false → s.faulted = false → s.initialized = false →
    exec (.init pulse mode) s = .next { s with
      cmd := none
      cfgPulseUs := pulse
      cfgSweep := mode
      status := s.status ||| 1#32
      seq := [0x9000#16, 0xA000#16, 0x5001#16, 0x6002#16, 0x7002#16] ++
        (if s.build.startupClear then
          (List.range s.build.height).flatMap fun r =>
            (List.range s.build.width).flatMap fun c => pixelSeq s.build false (r, c)
         else []) ++ [0xB000#16] }

/-- 43 R92: SET_PIXEL on an idle, initialised core, inside the grid; it does not look at the grid (43 R93). That
acceptance clears the port is the model's (log 15). -/
def Obligations.SetPixelIsAccepted : Prop :=
  ∀ (s : State) (row col : BitVec 8) (val : Bool),
    s.busy = false → s.faulted = false → s.initialized = true →
    row.toNat < s.build.height → col.toNat < s.build.width →
    exec (.setPixel row col val) s = .next { s with
      cmd := none
      status := s.status ||| 1#32
      seq := pixelSeq s.build val (row.toNat, col.toNat) }

/-- 43 R101: UPDATE_FRAME on an idle, initialised core with a fitting frame and a complete grid. That acceptance clears
the port and counts its draws is the model's (log 15, log 4). -/
def Obligations.UpdateFrameIsAccepted : Prop :=
  ∀ s : State, s.busy = false → s.faulted = false → s.initialized = true → s.GridComplete →
    s.frame.length = s.build.height → (∀ row ∈ s.frame, row.length = s.build.width) →
    ∃ ds draws, s.diff = some ds ∧
      exec .updateFrame s = .next { s with
        cmd := none
        status := if ds = [] then s.status &&& 0xFFFFFFFE#32 else s.status ||| 1#32
        seq := (s.sweepOrder ds).flatMap fun rc => pixelSeq s.build (frameBit s.frame rc.1 rc.2) rc
        draws := draws }

/-- 60 R116, R117: the hold, and the checks in their order; the command is consumed and nothing else happens. While the
queue is not empty the command stays on the port, whatever the core performs. That the turn of a faulted core changes
nothing is the model's (log 10), and so is that of a core with BUSY = 1 and nothing queued, which 10 R32 excludes
(log 18). -/
def Obligations.AcceptanceChecksInOrder : Prop :=
  ∀ (s : State) (w : CmdWord), s.cmd = some w →
    let t : State := { s with cmd := none }
    (s.seq ≠ [] → ∀ u : State, coreTurn s = .next u → u.cmd = some w) ∧
    (s.faulted = true → coreTurn s = .next s) ∧
    (s.seq = [] → s.busy = true → coreTurn s = .next s) ∧
    (s.seq = [] → s.busy = false → s.faulted = false →
      (∀ e, decodeCmd w = .error e → coreTurn s = .next (State.raise .illegalCmd t)) ∧
      (∀ pulse mode, decodeCmd w = .ok (.init pulse mode) → s.initialized = true →
        coreTurn s = .next (State.raise .reInit t)) ∧
      (∀ row col val, decodeCmd w = .ok (.setPixel row col val) →
        (s.initialized = false → coreTurn s = .next (State.raise .noInit t)) ∧
        (s.initialized = true → s.build.height ≤ row.toNat ∨ s.build.width ≤ col.toNat →
          coreTurn s = .next (State.raise .range t))) ∧
      (decodeCmd w = .ok .updateFrame →
        (s.initialized = false → coreTurn s = .next (State.raise .noInit t)) ∧
        (s.initialized = true →
          (s.frame.length ≠ s.build.height ∨ ∃ row ∈ s.frame, row.length ≠ s.build.width) →
          coreTurn s = .next (State.raise .frameDim t))))

/-- 60 R116: a command handed to exec while the core is busy or faulted waits, unchanged (the model's form of the hold,
log 13). -/
def Obligations.CommandsAreHeldWhileNotReady : Prop :=
  ∀ (s : State) (c : CmdWord) (i : Instr), decodeCmd c = .ok i → (s.busy = true ∨ s.faulted = true) →
    exec i s = .next s

/-! ### Faults and reset -/

/-- 60 R115, with the numbers of R114: raising a fault. That the core takes no further step is, in the model, a turn that
changes nothing (log 10). The reserved bits of STATUS are kept. -/
def Obligations.RaiseRecordsTheFirstFault : Prop :=
  ∀ (s : State) (c : FaultCode),
    let t := State.raise c s
    t.faulted = true ∧ t.initialized = s.initialized ∧ t.busy = false ∧ t.seq = [] ∧
    (s.faulted = false → t.trace = s.trace ++ [.fault c] ∧
      t.faultCode = (match c with
        | .pinCfg => 1#4 | .noInit => 2#4 | .reInit => 3#4 | .range => 4#4
        | .frameDim => 5#4 | .illegalCmd => 6#4 | .illegalUop => 7#4)) ∧
    (s.faulted = true → t.trace = s.trace ∧ t.faultCode = s.faultCode) ∧
    t = { s with seq := [], trace := t.trace, status := t.status } ∧
    t.status &&& 0xFFFFFF08#32 = s.status &&& 0xFFFFFF08#32 ∧
    coreTurn t = .next t

/-- 60 R120: nothing but reset frees a faulted core, and no second fault is recorded. How a stopped core's turns look is
the model's (log 10). -/
def Obligations.FaultsAreSticky : Prop :=
  ∀ s t : State, s.faulted = true → step s = .next t →
    (∃ rest, s.script = .host .reset :: rest) ∨
    (t.faulted = true ∧ t.faultCode = s.faultCode ∧ t.trace = s.trace ∧ t.pinOut = s.pinOut ∧
      t.pinCfg = s.pinCfg ∧ t.grid = s.grid ∧ t.seq = s.seq ∧ t.cfgPulseUs = s.cfgPulseUs ∧
      t.cfgSweep = s.cfgSweep ∧ t.status = s.status)

/-- 10 R37: every value the spec gives for reset, of every build; CFG_* and GRID have nothing to read. -/
def Obligations.ResetValues : Prop :=
  ∀ b : Build, let s := State.resetOf b
    s.build = b ∧ (∀ k : Line, s.pinCfg[k.val] = false ∧ s.pinOut[k.val] = none ∧ ∀ n, s.phys n k = .z) ∧
    s.status = 0x00000000#32 ∧ (∀ r c : Nat, s.gridRead r c = none) ∧ s.seq = [] ∧ s.trace = [] ∧
    s.cfgQ = none ∧ s.gridQ = none ∧ s.cmdReady = true

/-- 70 R129: reset at any moment. That the ports, the script and the count of draws stay is the model's (log 4, 7). -/
def Obligations.ResetAbandonsEverything : Prop :=
  ∀ (s : State) (rest : List Turn), s.script = .host .reset :: rest →
    step s = .next { State.resetOf s.build with
      cmd := s.cmd, frame := s.frame, script := rest, draws := s.draws }

/-- 00 R12, R13 (inferences the spec marks as its own): a build without an instance is refused at construction, and only
such a build. -/
def Obligations.IllegalBuildsAreRefused : Prop :=
  ∀ b : Build,
    ((b.height = 0 ∨ 28 < b.height ∨ b.width = 0 ∨ 28 < b.width ∨
      (∃ k : Line, b.present k = true ∧ b.lineId[k.val] = none) ∨
      (∃ k : Line, b.present k = false ∧ b.lineId[k.val] ≠ none) ∨
      (∃ j k : Line, j ≠ k ∧ b.lineId[j.val] ≠ none ∧ b.lineId[j.val] = b.lineId[k.val])) →
      construct b = .refused .illegalBuild) ∧
    (construct b = .refused .illegalBuild ∨ construct b = .next (State.resetOf b)) ∧
    (b.Legal → construct b = .next (State.resetOf b))

/-! ### The step -/

/-- A step performs the decoded instruction: the head of SEQ (10 R31), or the command of an idle, ready core (60 R116).
With an empty script the step is exec; else the turn is taken off the script first (the model's, log 6, log 18). -/
def Obligations.StepRunsTheDecodedInstruction : Prop :=
  ∀ (s : State) (i : Instr), s.faulted = false →
    ((∃ w rest, s.seq = w :: rest ∧ decodeUop w = .ok i) ∨
     (∃ w, s.seq = [] ∧ s.busy = false ∧ s.cmd = some w ∧ decodeCmd w = .ok i)) →
    (s.script = [] → step s = exec i s) ∧
    (∀ rest, s.script = .core :: rest → step s = exec i { s with script := rest })

/-- 70 R140, 10 R36: a core with nothing to do waits for ever, without a fault, and a turn of the host other than reset
writes its ports only. The idle step and the script are the model's form (log 11, log 6). -/
def Obligations.IdleCoreWaitsAndHostWritesPortsOnly : Prop :=
  (∀ s : State, s.script = [] → s.seq = [] → s.cmd = none → s.faulted = false → step s = .next s) ∧
  (∀ (s : State) (a : HostAction) (rest : List Turn), a ≠ .reset → s.script = .host a :: rest →
    ∃ cmd frame, step s = .next { s with cmd := cmd, frame := frame, script := rest } ∧
      (a = .read → cmd = s.cmd ∧ frame = s.frame) ∧
      (∀ w, a = .driveCmd w → cmd = w ∧ frame = s.frame) ∧
      (∀ f, a = .driveFrame f → cmd = s.cmd ∧ frame = f))

/-- 10 R22, R33: no step changes a construction constant, and events are only ever appended, but for reset. -/
def Obligations.BuildIsFixedAndTraceOnlyGrows : Prop :=
  ∀ s t : State, step s = .next t →
    t.build = s.build ∧ ((∃ rest, s.script = .host .reset :: rest) ∨ ∃ es, t.trace = s.trace ++ es)

/-! ### Frames over all instructions -/

/-- 10 R24, R26, R36: which instruction writes the latches and the configuration registers. -/
def Obligations.WritersOfLatchesAndConfiguration : Prop :=
  ∀ (i : Instr) (s t : State), exec i s = .next t →
    ((∀ k v, i ≠ .pinWrite k v) → t.pinOut = s.pinOut) ∧
    (∀ k v, i = .pinWrite k v → ∀ l : Line, l.val ≠ k.toNat → t.pinOut[l.val] = s.pinOut[l.val]) ∧
    (i ≠ .pinConfig → t.pinCfg = s.pinCfg) ∧
    ((∀ pulse mode, i ≠ .init pulse mode) → t.cfgPulseUs = s.cfgPulseUs ∧ t.cfgSweep = s.cfgSweep)

/-- 20 R38, R40: which instruction writes the grid, and which cells. -/
def Obligations.WritersOfTheGrid : Prop :=
  ∀ (i : Instr) (s t : State), exec i s = .next t →
    ((∀ r c v, i ≠ .gridWrite r c v) → i ≠ .gridClear → ∀ a : Nat, t.grid.read a = s.grid.read a) ∧
    (∀ r c v, i = .gridWrite r c v → ∀ a : Nat, a ≠ cellNumber s.build r.toNat c.toNat →
      t.grid.read a = s.grid.read a) ∧
    (i = .gridClear → ∀ a : Nat, s.build.height * s.build.width ≤ a → t.grid.read a = s.grid.read a)

/-- 10 R27, R28: which instruction writes which field of STATUS. A fault already recorded stays. BUSY rises only with a
command, which leaves work in SEQ; a command an idle core takes leaves it saying whether SEQ holds work; it falls only with
SEQ empty, and a micro-operation that leaves SEQ empty clears it. -/
def Obligations.WritersOfStatus : Prop :=
  ∀ (i : Instr) (s t : State), exec i s = .next t →
    (i ≠ .initDone → t.initialized = s.initialized) ∧
    (i = .initDone → t.initialized = true) ∧
    (s.faulted = true → t.faulted = true ∧ t.faultCode = s.faultCode) ∧
    (s.faulted = false → t.faulted = false → t.faultCode = s.faultCode) ∧
    (t.faulted = true → s.faulted = true ∨ (t.seq = [] ∧ t.busy = false ∧ ∃ c, t.trace = s.trace ++ [.fault c])) ∧
    (s.busy = false → t.busy = true → t.seq ≠ [] ∧
      ((∃ pulse mode, i = .init pulse mode) ∨ (∃ row col val, i = .setPixel row col val) ∨ i = .updateFrame)) ∧
    (∀ w, decodeCmd w = .ok i → s.busy = false → s.faulted = false → (t.busy = true ↔ t.seq ≠ [])) ∧
    (s.busy = true → t.busy = false → t.seq = []) ∧
    (∀ w, decodeUop w = .ok i → t.seq = [] → t.busy = false) ∧
    t.status &&& 0xFFFFFF08#32 = s.status &&& 0xFFFFFF08#32

/-- 10 R35, 20 R43: what the instructions leave of the host's side and of the build. -/
def Obligations.PortsAreTheHosts : Prop :=
  ∀ (i : Instr) (s t : State), exec i s = .next t →
    t.build = s.build ∧ t.frame = s.frame ∧ t.script = s.script ∧ (t.cmd = s.cmd ∨ t.cmd = none) ∧
    (∀ w, decodeUop w = .ok i → t.cmd = s.cmd)

/-! ### Invariants -/

/-- The invariant holds right after reset, of every legal build. -/
def Obligations.InvariantHoldsAtReset : Prop :=
  (∀ b : Build, b.Legal → (State.resetOf b).Inv) ∧ Build.default.Legal ∧ State.reset.Inv

/-- Every step keeps the invariant: the grid's form, the reserved bits and fault code of STATUS, BUSY, the legality of
every queued word, the stages of INIT, and the discipline of the pulse line (10 R27, R32, 30 R59, 44 R108, 70 R132). -/
def Obligations.StepKeepsTheInvariant : Prop :=
  ∀ s t : State, s.Inv → step s = .next t → t.Inv

/-- From a state that meets the invariant no step is refused, and a step faults only in the stopped machine (20 R39,
40 R63, 93 U22; the stop is the model's, log 10). -/
def Obligations.InvariantStatesAreNeverRefused : Prop :=
  ∀ s : State, s.Inv →
    (∃ t, step s = .next t) ∨
    (s.faulted = true ∧ s.script = [] ∧ step s = .fault (.stopped s.faultCode))

/-- 70 R132, 60 R118 (inferences the spec marks as its own): address and group lines change only while E2 is not
asserted, and no fault leaves E2 asserted. -/
def Obligations.AddressLinesChangeOnlyWhileThePulseIsOff : Prop :=
  ∀ s : State, s.Inv →
    (s.faulted = true → s.pinOut[13] ≠ some true) ∧
    ∀ t : State, step s = .next t → (∀ rest, s.script ≠ .host .reset :: rest) →
      ∀ k : Line, k.val ≤ 11 → t.pinOut[k.val] ≠ s.pinOut[k.val] → s.pinOut[13] ≠ some true

/-- 42 R82 (an inference the spec marks as its own): while E2 is asserted, the next thing on the pins is the pulse wait
or, after it, the deassertion. -/
def Obligations.OnlyThePulseWaitWhileAsserted : Prop :=
  ∀ s : State, s.Inv → s.pinOut[13] = some true →
    s.actsToCome.take 2 = [.wait .pulse, .write 13 false] ∨ s.actsToCome.head? = some (.write 13 false)

/-- Performing a legal micro-operation other than PIN_CONFIG moves acts from the queue to the trace and changes no
other (20 R49, 30 R60). -/
def Obligations.PerformingKeepsTheActs : Prop :=
  ∀ (s t : State) (w : UopWord) (i : Instr), s.seq.head? = some w → decodeUop w = .ok i →
    WellFormed s.build i = true → i ≠ .pinConfig → exec i s = .next t → t.acts = s.acts

/-! ### Whole commands -/

/-- 41 R79, 43 R91 (inferences the spec marks as their own): when the sequence of a pixel comes to assert E2, the lines
address the pixel's groups and positions, less bit 3 on a decoder without A3 (40 R69). -/
def Obligations.PixelSequenceAddressesItsCell : Prop :=
  ∀ (s : State) (r c : Nat) (v e1 : Bool) (rest : List UopWord), s.build.Legal → s.script = [] →
    s.faulted = false → s.Configured → r < s.build.height → c < s.build.width → s.pinOut[12] = some e1 →
    s.seq = pixelSeq s.build v (r, c) ++ rest →
    let rp := BitVec.ofNat 4 (position s.build (r % 7) v)
    let cp := BitVec.ofNat 4 (position s.build (c % 7) v)
    ∃ t, core.run (15 + s.build.rowA3.toNat + s.build.colA3.toNat) s = .next t ∧
      t.seq = wordPinWrite 13#4 true :: (pixelSeq s.build v (r, c)).drop 3 ++ rest ∧
      t.addressed = some {
        rowGroup := BitVec.ofNat 2 (r / 7)
        rowPos := if s.build.rowA3 then rp else rp &&& 7#4
        colGroup := BitVec.ofNat 2 (c / 7)
        colPos := if s.build.colA3 then cp else cp &&& 7#4
        rowEnable := e1 }

/-- 43 R95 (an inference the spec marks as its own): SET_PIXEL, run to its end, sets its cell, changes no other, and
pulses once, whatever the grid held. That acceptance clears the port is the model's (log 15). -/
def Obligations.SetPixelCompletes : Prop :=
  ∀ (s : State) (row col : BitVec 8) (val : Bool), s.Inv → s.script = [] → s.seq = [] →
    s.faulted = false → s.initialized = true → row.toNat < s.build.height → col.toNat < s.build.width →
    ∃ n t es, core.run n { s with cmd := some (wordSetPixel row col val) } = .next t ∧
      t.seq = [] ∧ t.status = s.status ∧ t.cmd = none ∧
      t.gridRead row.toNat col.toNat = some val ∧
      (∀ r c : Nat, (r, c) ≠ (row.toNat, col.toNat) → t.gridRead r c = s.gridRead r c) ∧
      t.trace = s.trace ++ es ∧ pulseCount (es.filterMap Event.act?) = 1 ∧
      s.cfgPulseUs.toNat + s.build.recoveryUs ≤ elapsedUs es

/-- 43 R102, R103, R107 (inferences the spec marks as its own): UPDATE_FRAME, run to its end, makes the grid the frame,
with one pulse for each cell that differed and at least that many pulse and recovery times. That acceptance clears the port
is the model's (log 15). -/
def Obligations.UpdateFrameCompletes : Prop :=
  ∀ s : State, s.Inv → s.script = [] → s.seq = [] → s.faulted = false → s.initialized = true →
    s.frame.length = s.build.height → (∀ row ∈ s.frame, row.length = s.build.width) →
    ∃ n t es ds, core.run n { s with cmd := some wordUpdateFrame } = .next t ∧
      t.seq = [] ∧ t.status = s.status ∧ t.cmd = none ∧
      (∀ r c : Nat, r < s.build.height → c < s.build.width → t.gridRead r c = some (frameBit s.frame r c)) ∧
      s.diff = some ds ∧ t.trace = s.trace ++ es ∧
      pulseCount (es.filterMap Event.act?) = ds.length ∧
      ds.length * (s.cfgPulseUs.toNat + s.build.recoveryUs) ≤ elapsedUs es

/-- 43 R104 (an inference the spec marks as its own): a frame equal to the grid costs no pulse, pin write or event. The
cleared port and the count of draws are the model's (log 15, log 4). -/
def Obligations.EqualFrameDoesNothing : Prop :=
  ∀ s : State, s.busy = false → s.faulted = false → s.initialized = true →
    s.frame.length = s.build.height → (∀ row ∈ s.frame, row.length = s.build.width) →
    (∀ r c : Nat, r < s.build.height → c < s.build.width → s.gridRead r c = some (frameBit s.frame r c)) →
    ∃ draws, exec .updateFrame s = .next { s with
      cmd := none, seq := [], status := s.status &&& 0xFFFFFFFE#32, draws := draws }

/-- 44 R112, 70 R139 (inferences the spec marks as their own): INIT, run to its end from a fresh core, leaves the core
initialised with E1 asserted, E2 deasserted, the grid all 0, and the address and group lines as the last pixel of the
startup clear leaves them, or unwritten when there is no startup clear, after waits of at least SETTLE_US and, with the
startup clear, CFG_PULSE_US + RECOVERY_US for every cell; unless the platform refused the lines. -/
def Obligations.InitCompletes : Prop :=
  ∀ (s : State) (pulse : BitVec 32) (mode : SweepMode), s.Inv → s.script = [] → s.seq = [] →
    s.faulted = false → s.initialized = false →
    ∃ n t es, core.run n { s with cmd := some (wordInit pulse mode) } = .next t ∧ t.seq = [] ∧ t.busy = false ∧
      t.cfgPulseUs = pulse ∧ t.cfgSweep = mode ∧ t.trace = s.trace ++ es ∧
      ((t.initialized = true ∧ t.faulted = false ∧ t.Configured ∧
        (∀ r c : Nat, r < s.build.height → c < s.build.width → t.gridRead r c = some false) ∧
        t.pinOut[12] = some true ∧ t.pinOut[13] = some false ∧
        (s.build.startupClear = false → (∀ k : Line, k.val ≤ 11 → t.pinOut[k.val] = none) ∧
          s.build.settleUs ≤ elapsedUs es) ∧
        (s.build.startupClear = true →
          let r := s.build.height - 1
          let c := s.build.width - 1
          let rp := position s.build (r % 7) false
          let cp := position s.build (c % 7) false
          t.pinOut = #v[some (rp.testBit 0), some (rp.testBit 1), some (rp.testBit 2),
            if s.build.rowA3 then some (!rp.testBit 3) else none,
            some (cp.testBit 0), some (cp.testBit 1), some (cp.testBit 2),
            if s.build.colA3 then some (!cp.testBit 3) else none,
            some ((r / 7).testBit 0), some ((r / 7).testBit 1),
            some ((c / 7).testBit 0), some ((c / 7).testBit 1), some true, some false] ∧
          s.build.settleUs +
              s.build.height * s.build.width * (pulse.toNat + s.build.recoveryUs) ≤ elapsedUs es)) ∨
       (t.initialized = false ∧ t.faulted = true ∧ t.faultCode = 1#4 ∧
        (∀ k : Line, t.pinOut[k.val] = none)))

/-- 43 R106, 60 R116, R117: once accepted, a command runs to its end, whatever is presented meanwhile: the hold is lifted,
with the same word on the port, and no fault but F_PINCFG was raised. The script is empty, so no reset intervenes. -/
def Obligations.RunningCommandEndsWithTheNextOneHeld : Prop :=
  ∀ s : State, s.Inv → s.script = [] → s.faulted = false →
    ∃ n t, core.run n s = .next t ∧ t.seq = [] ∧ t.busy = false ∧ t.cmd = s.cmd ∧
      (t.faulted = true → s.initialized = false ∧ t.faultCode = 1#4)
end

