-- ==== Sys2Proof/Laws/State.lean ====
section
/-!
SUPPORT. Laws/State.lean: what every operation makes of every field of the state, and the fields of STATUS after each.
-/

namespace Sys2Proof.Machine

/-! ### emit -/

@[simp] theorem State.emit_build (e : Event) (s : State) :
    (State.emit e s).build = s.build := rfl
@[simp] theorem State.emit_pinCfg (e : Event) (s : State) :
    (State.emit e s).pinCfg = s.pinCfg := rfl
@[simp] theorem State.emit_pinOut (e : Event) (s : State) :
    (State.emit e s).pinOut = s.pinOut := rfl
@[simp] theorem State.emit_cfgPulseUs (e : Event) (s : State) :
    (State.emit e s).cfgPulseUs = s.cfgPulseUs := rfl
@[simp] theorem State.emit_cfgSweep (e : Event) (s : State) :
    (State.emit e s).cfgSweep = s.cfgSweep := rfl
@[simp] theorem State.emit_status (e : Event) (s : State) :
    (State.emit e s).status = s.status := rfl
@[simp] theorem State.emit_grid (e : Event) (s : State) :
    (State.emit e s).grid = s.grid := rfl
@[simp] theorem State.emit_seq (e : Event) (s : State) :
    (State.emit e s).seq = s.seq := rfl
@[simp] theorem State.emit_trace (e : Event) (s : State) :
    (State.emit e s).trace = s.trace ++ [e] := rfl
@[simp] theorem State.emit_cmd (e : Event) (s : State) :
    (State.emit e s).cmd = s.cmd := rfl
@[simp] theorem State.emit_frame (e : Event) (s : State) :
    (State.emit e s).frame = s.frame := rfl
@[simp] theorem State.emit_script (e : Event) (s : State) :
    (State.emit e s).script = s.script := rfl
@[simp] theorem State.emit_draws (e : Event) (s : State) :
    (State.emit e s).draws = s.draws := rfl

/-! ### pinWrite -/

@[simp] theorem State.pinWrite_build (k : Line) (v : Bool) (s : State) :
    (State.pinWrite k v s).build = s.build := rfl
@[simp] theorem State.pinWrite_pinCfg (k : Line) (v : Bool) (s : State) :
    (State.pinWrite k v s).pinCfg = s.pinCfg := rfl
@[simp] theorem State.pinWrite_pinOut (k : Line) (v : Bool) (s : State) :
    (State.pinWrite k v s).pinOut = s.pinOut.set k.val (some v) := rfl
@[simp] theorem State.pinWrite_cfgPulseUs (k : Line) (v : Bool) (s : State) :
    (State.pinWrite k v s).cfgPulseUs = s.cfgPulseUs := rfl
@[simp] theorem State.pinWrite_cfgSweep (k : Line) (v : Bool) (s : State) :
    (State.pinWrite k v s).cfgSweep = s.cfgSweep := rfl
@[simp] theorem State.pinWrite_status (k : Line) (v : Bool) (s : State) :
    (State.pinWrite k v s).status = s.status := rfl
@[simp] theorem State.pinWrite_grid (k : Line) (v : Bool) (s : State) :
    (State.pinWrite k v s).grid = s.grid := rfl
@[simp] theorem State.pinWrite_seq (k : Line) (v : Bool) (s : State) :
    (State.pinWrite k v s).seq = s.seq := rfl
@[simp] theorem State.pinWrite_trace (k : Line) (v : Bool) (s : State) :
    (State.pinWrite k v s).trace = s.trace ++ [.level k s.build.lineId[k.val] v (physicalOf s.build k v)] := rfl
@[simp] theorem State.pinWrite_cmd (k : Line) (v : Bool) (s : State) :
    (State.pinWrite k v s).cmd = s.cmd := rfl
@[simp] theorem State.pinWrite_frame (k : Line) (v : Bool) (s : State) :
    (State.pinWrite k v s).frame = s.frame := rfl
@[simp] theorem State.pinWrite_script (k : Line) (v : Bool) (s : State) :
    (State.pinWrite k v s).script = s.script := rfl
@[simp] theorem State.pinWrite_draws (k : Line) (v : Bool) (s : State) :
    (State.pinWrite k v s).draws = s.draws := rfl

/-! ### drawn -/

@[simp] theorem State.drawn_build (n : Nat) (s : State) :
    (State.drawn n s).build = s.build := rfl
@[simp] theorem State.drawn_pinCfg (n : Nat) (s : State) :
    (State.drawn n s).pinCfg = s.pinCfg := rfl
@[simp] theorem State.drawn_pinOut (n : Nat) (s : State) :
    (State.drawn n s).pinOut = s.pinOut := rfl
@[simp] theorem State.drawn_cfgPulseUs (n : Nat) (s : State) :
    (State.drawn n s).cfgPulseUs = s.cfgPulseUs := rfl
@[simp] theorem State.drawn_cfgSweep (n : Nat) (s : State) :
    (State.drawn n s).cfgSweep = s.cfgSweep := rfl
@[simp] theorem State.drawn_status (n : Nat) (s : State) :
    (State.drawn n s).status = s.status := rfl
@[simp] theorem State.drawn_grid (n : Nat) (s : State) :
    (State.drawn n s).grid = s.grid := rfl
@[simp] theorem State.drawn_seq (n : Nat) (s : State) :
    (State.drawn n s).seq = s.seq := rfl
@[simp] theorem State.drawn_trace (n : Nat) (s : State) :
    (State.drawn n s).trace = s.trace := rfl
@[simp] theorem State.drawn_cmd (n : Nat) (s : State) :
    (State.drawn n s).cmd = s.cmd := rfl
@[simp] theorem State.drawn_frame (n : Nat) (s : State) :
    (State.drawn n s).frame = s.frame := rfl
@[simp] theorem State.drawn_script (n : Nat) (s : State) :
    (State.drawn n s).script = s.script := rfl
@[simp] theorem State.drawn_draws (n : Nat) (s : State) :
    (State.drawn n s).draws = s.draws + n := rfl

/-! ### setBusy -/

@[simp] theorem State.setBusy_build (v : Bool) (s : State) :
    (State.setBusy v s).build = s.build := rfl
@[simp] theorem State.setBusy_pinCfg (v : Bool) (s : State) :
    (State.setBusy v s).pinCfg = s.pinCfg := rfl
@[simp] theorem State.setBusy_pinOut (v : Bool) (s : State) :
    (State.setBusy v s).pinOut = s.pinOut := rfl
@[simp] theorem State.setBusy_cfgPulseUs (v : Bool) (s : State) :
    (State.setBusy v s).cfgPulseUs = s.cfgPulseUs := rfl
@[simp] theorem State.setBusy_cfgSweep (v : Bool) (s : State) :
    (State.setBusy v s).cfgSweep = s.cfgSweep := rfl
@[simp] theorem State.setBusy_status (v : Bool) (s : State) :
    (State.setBusy v s).status = putBit s.status 0 v := rfl
@[simp] theorem State.setBusy_grid (v : Bool) (s : State) :
    (State.setBusy v s).grid = s.grid := rfl
@[simp] theorem State.setBusy_seq (v : Bool) (s : State) :
    (State.setBusy v s).seq = s.seq := rfl
@[simp] theorem State.setBusy_trace (v : Bool) (s : State) :
    (State.setBusy v s).trace = s.trace := rfl
@[simp] theorem State.setBusy_cmd (v : Bool) (s : State) :
    (State.setBusy v s).cmd = s.cmd := rfl
@[simp] theorem State.setBusy_frame (v : Bool) (s : State) :
    (State.setBusy v s).frame = s.frame := rfl
@[simp] theorem State.setBusy_script (v : Bool) (s : State) :
    (State.setBusy v s).script = s.script := rfl
@[simp] theorem State.setBusy_draws (v : Bool) (s : State) :
    (State.setBusy v s).draws = s.draws := rfl

/-! ### setInitialized -/

@[simp] theorem State.setInitialized_build (v : Bool) (s : State) :
    (State.setInitialized v s).build = s.build := rfl
@[simp] theorem State.setInitialized_pinCfg (v : Bool) (s : State) :
    (State.setInitialized v s).pinCfg = s.pinCfg := rfl
@[simp] theorem State.setInitialized_pinOut (v : Bool) (s : State) :
    (State.setInitialized v s).pinOut = s.pinOut := rfl
@[simp] theorem State.setInitialized_cfgPulseUs (v : Bool) (s : State) :
    (State.setInitialized v s).cfgPulseUs = s.cfgPulseUs := rfl
@[simp] theorem State.setInitialized_cfgSweep (v : Bool) (s : State) :
    (State.setInitialized v s).cfgSweep = s.cfgSweep := rfl
@[simp] theorem State.setInitialized_status (v : Bool) (s : State) :
    (State.setInitialized v s).status = putBit s.status 1 v := rfl
@[simp] theorem State.setInitialized_grid (v : Bool) (s : State) :
    (State.setInitialized v s).grid = s.grid := rfl
@[simp] theorem State.setInitialized_seq (v : Bool) (s : State) :
    (State.setInitialized v s).seq = s.seq := rfl
@[simp] theorem State.setInitialized_trace (v : Bool) (s : State) :
    (State.setInitialized v s).trace = s.trace := rfl
@[simp] theorem State.setInitialized_cmd (v : Bool) (s : State) :
    (State.setInitialized v s).cmd = s.cmd := rfl
@[simp] theorem State.setInitialized_frame (v : Bool) (s : State) :
    (State.setInitialized v s).frame = s.frame := rfl
@[simp] theorem State.setInitialized_script (v : Bool) (s : State) :
    (State.setInitialized v s).script = s.script := rfl
@[simp] theorem State.setInitialized_draws (v : Bool) (s : State) :
    (State.setInitialized v s).draws = s.draws := rfl

/-! ### setFaulted -/

@[simp] theorem State.setFaulted_build (v : Bool) (s : State) :
    (State.setFaulted v s).build = s.build := rfl
@[simp] theorem State.setFaulted_pinCfg (v : Bool) (s : State) :
    (State.setFaulted v s).pinCfg = s.pinCfg := rfl
@[simp] theorem State.setFaulted_pinOut (v : Bool) (s : State) :
    (State.setFaulted v s).pinOut = s.pinOut := rfl
@[simp] theorem State.setFaulted_cfgPulseUs (v : Bool) (s : State) :
    (State.setFaulted v s).cfgPulseUs = s.cfgPulseUs := rfl
@[simp] theorem State.setFaulted_cfgSweep (v : Bool) (s : State) :
    (State.setFaulted v s).cfgSweep = s.cfgSweep := rfl
@[simp] theorem State.setFaulted_status (v : Bool) (s : State) :
    (State.setFaulted v s).status = putBit s.status 2 v := rfl
@[simp] theorem State.setFaulted_grid (v : Bool) (s : State) :
    (State.setFaulted v s).grid = s.grid := rfl
@[simp] theorem State.setFaulted_seq (v : Bool) (s : State) :
    (State.setFaulted v s).seq = s.seq := rfl
@[simp] theorem State.setFaulted_trace (v : Bool) (s : State) :
    (State.setFaulted v s).trace = s.trace := rfl
@[simp] theorem State.setFaulted_cmd (v : Bool) (s : State) :
    (State.setFaulted v s).cmd = s.cmd := rfl
@[simp] theorem State.setFaulted_frame (v : Bool) (s : State) :
    (State.setFaulted v s).frame = s.frame := rfl
@[simp] theorem State.setFaulted_script (v : Bool) (s : State) :
    (State.setFaulted v s).script = s.script := rfl
@[simp] theorem State.setFaulted_draws (v : Bool) (s : State) :
    (State.setFaulted v s).draws = s.draws := rfl

/-! ### setFaultCode -/

@[simp] theorem State.setFaultCode_build (c : BitVec 4) (s : State) :
    (State.setFaultCode c s).build = s.build := rfl
@[simp] theorem State.setFaultCode_pinCfg (c : BitVec 4) (s : State) :
    (State.setFaultCode c s).pinCfg = s.pinCfg := rfl
@[simp] theorem State.setFaultCode_pinOut (c : BitVec 4) (s : State) :
    (State.setFaultCode c s).pinOut = s.pinOut := rfl
@[simp] theorem State.setFaultCode_cfgPulseUs (c : BitVec 4) (s : State) :
    (State.setFaultCode c s).cfgPulseUs = s.cfgPulseUs := rfl
@[simp] theorem State.setFaultCode_cfgSweep (c : BitVec 4) (s : State) :
    (State.setFaultCode c s).cfgSweep = s.cfgSweep := rfl
@[simp] theorem State.setFaultCode_status (c : BitVec 4) (s : State) :
    (State.setFaultCode c s).status = (s.status &&& ~~~(0xF0#32)) ||| (c.setWidth 32 <<< 4) := rfl
@[simp] theorem State.setFaultCode_grid (c : BitVec 4) (s : State) :
    (State.setFaultCode c s).grid = s.grid := rfl
@[simp] theorem State.setFaultCode_seq (c : BitVec 4) (s : State) :
    (State.setFaultCode c s).seq = s.seq := rfl
@[simp] theorem State.setFaultCode_trace (c : BitVec 4) (s : State) :
    (State.setFaultCode c s).trace = s.trace := rfl
@[simp] theorem State.setFaultCode_cmd (c : BitVec 4) (s : State) :
    (State.setFaultCode c s).cmd = s.cmd := rfl
@[simp] theorem State.setFaultCode_frame (c : BitVec 4) (s : State) :
    (State.setFaultCode c s).frame = s.frame := rfl
@[simp] theorem State.setFaultCode_script (c : BitVec 4) (s : State) :
    (State.setFaultCode c s).script = s.script := rfl
@[simp] theorem State.setFaultCode_draws (c : BitVec 4) (s : State) :
    (State.setFaultCode c s).draws = s.draws := rfl

/-! ### gridWrite -/

@[simp] theorem State.gridWrite_build (r c : Nat) (v : Bool) (s : State) :
    (State.gridWrite r c v s).build = s.build := rfl
@[simp] theorem State.gridWrite_pinCfg (r c : Nat) (v : Bool) (s : State) :
    (State.gridWrite r c v s).pinCfg = s.pinCfg := rfl
@[simp] theorem State.gridWrite_pinOut (r c : Nat) (v : Bool) (s : State) :
    (State.gridWrite r c v s).pinOut = s.pinOut := rfl
@[simp] theorem State.gridWrite_cfgPulseUs (r c : Nat) (v : Bool) (s : State) :
    (State.gridWrite r c v s).cfgPulseUs = s.cfgPulseUs := rfl
@[simp] theorem State.gridWrite_cfgSweep (r c : Nat) (v : Bool) (s : State) :
    (State.gridWrite r c v s).cfgSweep = s.cfgSweep := rfl
@[simp] theorem State.gridWrite_status (r c : Nat) (v : Bool) (s : State) :
    (State.gridWrite r c v s).status = s.status := rfl
@[simp] theorem State.gridWrite_grid (r c : Nat) (v : Bool) (s : State) :
    (State.gridWrite r c v s).grid = s.grid.write (cellNumber s.build r c) v := rfl
@[simp] theorem State.gridWrite_seq (r c : Nat) (v : Bool) (s : State) :
    (State.gridWrite r c v s).seq = s.seq := rfl
@[simp] theorem State.gridWrite_trace (r c : Nat) (v : Bool) (s : State) :
    (State.gridWrite r c v s).trace = s.trace := rfl
@[simp] theorem State.gridWrite_cmd (r c : Nat) (v : Bool) (s : State) :
    (State.gridWrite r c v s).cmd = s.cmd := rfl
@[simp] theorem State.gridWrite_frame (r c : Nat) (v : Bool) (s : State) :
    (State.gridWrite r c v s).frame = s.frame := rfl
@[simp] theorem State.gridWrite_script (r c : Nat) (v : Bool) (s : State) :
    (State.gridWrite r c v s).script = s.script := rfl
@[simp] theorem State.gridWrite_draws (r c : Nat) (v : Bool) (s : State) :
    (State.gridWrite r c v s).draws = s.draws := rfl

/-! ### retire -/

@[simp] theorem State.retire_build (s : State) :
    s.retire.build = s.build := by unfold State.retire; split <;> rfl
@[simp] theorem State.retire_pinCfg (s : State) :
    s.retire.pinCfg = s.pinCfg := by unfold State.retire; split <;> rfl
@[simp] theorem State.retire_pinOut (s : State) :
    s.retire.pinOut = s.pinOut := by unfold State.retire; split <;> rfl
@[simp] theorem State.retire_cfgPulseUs (s : State) :
    s.retire.cfgPulseUs = s.cfgPulseUs := by unfold State.retire; split <;> rfl
@[simp] theorem State.retire_cfgSweep (s : State) :
    s.retire.cfgSweep = s.cfgSweep := by unfold State.retire; split <;> rfl
@[simp] theorem State.retire_status (s : State) :
    s.retire.status = if s.seq.tail = [] then putBit s.status 0 false else s.status := by unfold State.retire; split <;> rfl
@[simp] theorem State.retire_grid (s : State) :
    s.retire.grid = s.grid := by unfold State.retire; split <;> rfl
@[simp] theorem State.retire_seq (s : State) :
    s.retire.seq = s.seq.tail := by unfold State.retire; split <;> simp_all
@[simp] theorem State.retire_trace (s : State) :
    s.retire.trace = s.trace := by unfold State.retire; split <;> rfl
@[simp] theorem State.retire_cmd (s : State) :
    s.retire.cmd = s.cmd := by unfold State.retire; split <;> rfl
@[simp] theorem State.retire_frame (s : State) :
    s.retire.frame = s.frame := by unfold State.retire; split <;> rfl
@[simp] theorem State.retire_script (s : State) :
    s.retire.script = s.script := by unfold State.retire; split <;> rfl
@[simp] theorem State.retire_draws (s : State) :
    s.retire.draws = s.draws := by unfold State.retire; split <;> rfl

/-! ### expand -/

@[simp] theorem State.expand_build (ws : List UopWord) (s : State) :
    (State.expand ws s).build = s.build := rfl
@[simp] theorem State.expand_pinCfg (ws : List UopWord) (s : State) :
    (State.expand ws s).pinCfg = s.pinCfg := rfl
@[simp] theorem State.expand_pinOut (ws : List UopWord) (s : State) :
    (State.expand ws s).pinOut = s.pinOut := rfl
@[simp] theorem State.expand_cfgPulseUs (ws : List UopWord) (s : State) :
    (State.expand ws s).cfgPulseUs = s.cfgPulseUs := rfl
@[simp] theorem State.expand_cfgSweep (ws : List UopWord) (s : State) :
    (State.expand ws s).cfgSweep = s.cfgSweep := rfl
@[simp] theorem State.expand_status (ws : List UopWord) (s : State) :
    (State.expand ws s).status = s.status := rfl
@[simp] theorem State.expand_grid (ws : List UopWord) (s : State) :
    (State.expand ws s).grid = s.grid := rfl
@[simp] theorem State.expand_seq (ws : List UopWord) (s : State) :
    (State.expand ws s).seq = ws ++ s.seq.tail := rfl
@[simp] theorem State.expand_trace (ws : List UopWord) (s : State) :
    (State.expand ws s).trace = s.trace := rfl
@[simp] theorem State.expand_cmd (ws : List UopWord) (s : State) :
    (State.expand ws s).cmd = s.cmd := rfl
@[simp] theorem State.expand_frame (ws : List UopWord) (s : State) :
    (State.expand ws s).frame = s.frame := rfl
@[simp] theorem State.expand_script (ws : List UopWord) (s : State) :
    (State.expand ws s).script = s.script := rfl
@[simp] theorem State.expand_draws (ws : List UopWord) (s : State) :
    (State.expand ws s).draws = s.draws := rfl

/-! ### begin -/

@[simp] theorem State.begin_build (ws : List UopWord) (s : State) :
    (State.begin ws s).build = s.build := rfl
@[simp] theorem State.begin_pinCfg (ws : List UopWord) (s : State) :
    (State.begin ws s).pinCfg = s.pinCfg := rfl
@[simp] theorem State.begin_pinOut (ws : List UopWord) (s : State) :
    (State.begin ws s).pinOut = s.pinOut := rfl
@[simp] theorem State.begin_cfgPulseUs (ws : List UopWord) (s : State) :
    (State.begin ws s).cfgPulseUs = s.cfgPulseUs := rfl
@[simp] theorem State.begin_cfgSweep (ws : List UopWord) (s : State) :
    (State.begin ws s).cfgSweep = s.cfgSweep := rfl
@[simp] theorem State.begin_status (ws : List UopWord) (s : State) :
    (State.begin ws s).status = putBit s.status 0 (!ws.isEmpty) := rfl
@[simp] theorem State.begin_grid (ws : List UopWord) (s : State) :
    (State.begin ws s).grid = s.grid := rfl
@[simp] theorem State.begin_seq (ws : List UopWord) (s : State) :
    (State.begin ws s).seq = ws := rfl
@[simp] theorem State.begin_trace (ws : List UopWord) (s : State) :
    (State.begin ws s).trace = s.trace := rfl
@[simp] theorem State.begin_cmd (ws : List UopWord) (s : State) :
    (State.begin ws s).cmd = s.cmd := rfl
@[simp] theorem State.begin_frame (ws : List UopWord) (s : State) :
    (State.begin ws s).frame = s.frame := rfl
@[simp] theorem State.begin_script (ws : List UopWord) (s : State) :
    (State.begin ws s).script = s.script := rfl
@[simp] theorem State.begin_draws (ws : List UopWord) (s : State) :
    (State.begin ws s).draws = s.draws := rfl

/-! ### setConfig -/

@[simp] theorem State.setConfig_build (pulse : BitVec 32) (mode : SweepMode) (s : State) :
    (State.setConfig pulse mode s).build = s.build := rfl
@[simp] theorem State.setConfig_pinCfg (pulse : BitVec 32) (mode : SweepMode) (s : State) :
    (State.setConfig pulse mode s).pinCfg = s.pinCfg := rfl
@[simp] theorem State.setConfig_pinOut (pulse : BitVec 32) (mode : SweepMode) (s : State) :
    (State.setConfig pulse mode s).pinOut = s.pinOut := rfl
@[simp] theorem State.setConfig_cfgPulseUs (pulse : BitVec 32) (mode : SweepMode) (s : State) :
    (State.setConfig pulse mode s).cfgPulseUs = pulse := rfl
@[simp] theorem State.setConfig_cfgSweep (pulse : BitVec 32) (mode : SweepMode) (s : State) :
    (State.setConfig pulse mode s).cfgSweep = mode := rfl
@[simp] theorem State.setConfig_status (pulse : BitVec 32) (mode : SweepMode) (s : State) :
    (State.setConfig pulse mode s).status = s.status := rfl
@[simp] theorem State.setConfig_grid (pulse : BitVec 32) (mode : SweepMode) (s : State) :
    (State.setConfig pulse mode s).grid = s.grid := rfl
@[simp] theorem State.setConfig_seq (pulse : BitVec 32) (mode : SweepMode) (s : State) :
    (State.setConfig pulse mode s).seq = s.seq := rfl
@[simp] theorem State.setConfig_trace (pulse : BitVec 32) (mode : SweepMode) (s : State) :
    (State.setConfig pulse mode s).trace = s.trace := rfl
@[simp] theorem State.setConfig_cmd (pulse : BitVec 32) (mode : SweepMode) (s : State) :
    (State.setConfig pulse mode s).cmd = s.cmd := rfl
@[simp] theorem State.setConfig_frame (pulse : BitVec 32) (mode : SweepMode) (s : State) :
    (State.setConfig pulse mode s).frame = s.frame := rfl
@[simp] theorem State.setConfig_script (pulse : BitVec 32) (mode : SweepMode) (s : State) :
    (State.setConfig pulse mode s).script = s.script := rfl
@[simp] theorem State.setConfig_draws (pulse : BitVec 32) (mode : SweepMode) (s : State) :
    (State.setConfig pulse mode s).draws = s.draws := rfl

/-! ### consume -/

@[simp] theorem State.consume_build (s : State) :
    s.consume.build = s.build := rfl
@[simp] theorem State.consume_pinCfg (s : State) :
    s.consume.pinCfg = s.pinCfg := rfl
@[simp] theorem State.consume_pinOut (s : State) :
    s.consume.pinOut = s.pinOut := rfl
@[simp] theorem State.consume_cfgPulseUs (s : State) :
    s.consume.cfgPulseUs = s.cfgPulseUs := rfl
@[simp] theorem State.consume_cfgSweep (s : State) :
    s.consume.cfgSweep = s.cfgSweep := rfl
@[simp] theorem State.consume_status (s : State) :
    s.consume.status = s.status := rfl
@[simp] theorem State.consume_grid (s : State) :
    s.consume.grid = s.grid := rfl
@[simp] theorem State.consume_seq (s : State) :
    s.consume.seq = s.seq := rfl
@[simp] theorem State.consume_trace (s : State) :
    s.consume.trace = s.trace := rfl
@[simp] theorem State.consume_cmd (s : State) :
    s.consume.cmd = none := rfl
@[simp] theorem State.consume_frame (s : State) :
    s.consume.frame = s.frame := rfl
@[simp] theorem State.consume_script (s : State) :
    s.consume.script = s.script := rfl
@[simp] theorem State.consume_draws (s : State) :
    s.consume.draws = s.draws := rfl

/-! ### raise -/

@[simp] theorem State.raise_build (c : FaultCode) (s : State) :
    (State.raise c s).build = s.build := by unfold State.raise; cases s.faulted <;> rfl
@[simp] theorem State.raise_pinCfg (c : FaultCode) (s : State) :
    (State.raise c s).pinCfg = s.pinCfg := by unfold State.raise; cases s.faulted <;> rfl
@[simp] theorem State.raise_pinOut (c : FaultCode) (s : State) :
    (State.raise c s).pinOut = s.pinOut := by unfold State.raise; cases s.faulted <;> rfl
@[simp] theorem State.raise_cfgPulseUs (c : FaultCode) (s : State) :
    (State.raise c s).cfgPulseUs = s.cfgPulseUs := by unfold State.raise; cases s.faulted <;> rfl
@[simp] theorem State.raise_cfgSweep (c : FaultCode) (s : State) :
    (State.raise c s).cfgSweep = s.cfgSweep := by unfold State.raise; cases s.faulted <;> rfl
@[simp] theorem State.raise_status (c : FaultCode) (s : State) :
    (State.raise c s).status = putBit (if s.faulted then s.status else (State.setFaultCode c.number (State.setFaulted true s)).status) 0 false := by unfold State.raise; cases s.faulted <;> rfl
@[simp] theorem State.raise_grid (c : FaultCode) (s : State) :
    (State.raise c s).grid = s.grid := by unfold State.raise; cases s.faulted <;> rfl
@[simp] theorem State.raise_seq (c : FaultCode) (s : State) :
    (State.raise c s).seq = [] := by unfold State.raise; cases s.faulted <;> rfl
@[simp] theorem State.raise_trace (c : FaultCode) (s : State) :
    (State.raise c s).trace = if s.faulted then s.trace else s.trace ++ [.fault c] := by unfold State.raise; cases s.faulted <;> rfl
@[simp] theorem State.raise_cmd (c : FaultCode) (s : State) :
    (State.raise c s).cmd = s.cmd := by unfold State.raise; cases s.faulted <;> rfl
@[simp] theorem State.raise_frame (c : FaultCode) (s : State) :
    (State.raise c s).frame = s.frame := by unfold State.raise; cases s.faulted <;> rfl
@[simp] theorem State.raise_script (c : FaultCode) (s : State) :
    (State.raise c s).script = s.script := by unfold State.raise; cases s.faulted <;> rfl
@[simp] theorem State.raise_draws (c : FaultCode) (s : State) :
    (State.raise c s).draws = s.draws := by unfold State.raise; cases s.faulted <;> rfl

/-! ### waited -/

@[simp] theorem State.waited_build (kind : DelayKind) (s : State) :
    (State.waited kind s).build = s.build := rfl
@[simp] theorem State.waited_pinCfg (kind : DelayKind) (s : State) :
    (State.waited kind s).pinCfg = s.pinCfg := rfl
@[simp] theorem State.waited_pinOut (kind : DelayKind) (s : State) :
    (State.waited kind s).pinOut = s.pinOut := rfl
@[simp] theorem State.waited_cfgPulseUs (kind : DelayKind) (s : State) :
    (State.waited kind s).cfgPulseUs = s.cfgPulseUs := rfl
@[simp] theorem State.waited_cfgSweep (kind : DelayKind) (s : State) :
    (State.waited kind s).cfgSweep = s.cfgSweep := rfl
@[simp] theorem State.waited_status (kind : DelayKind) (s : State) :
    (State.waited kind s).status = s.status := rfl
@[simp] theorem State.waited_grid (kind : DelayKind) (s : State) :
    (State.waited kind s).grid = s.grid := rfl
@[simp] theorem State.waited_seq (kind : DelayKind) (s : State) :
    (State.waited kind s).seq = s.seq := rfl
@[simp] theorem State.waited_trace (kind : DelayKind) (s : State) :
    (State.waited kind s).trace = s.trace ++ [.wait kind (s.minimumUs kind) (s.minimumUs kind + Config.freeOverrun s.draws)] := rfl
@[simp] theorem State.waited_cmd (kind : DelayKind) (s : State) :
    (State.waited kind s).cmd = s.cmd := rfl
@[simp] theorem State.waited_frame (kind : DelayKind) (s : State) :
    (State.waited kind s).frame = s.frame := rfl
@[simp] theorem State.waited_script (kind : DelayKind) (s : State) :
    (State.waited kind s).script = s.script := rfl
@[simp] theorem State.waited_draws (kind : DelayKind) (s : State) :
    (State.waited kind s).draws = s.draws + 1 := rfl

/-! ### configureLines -/

@[simp] theorem State.configureLines_build (s : State) :
    s.configureLines.build = s.build := rfl
@[simp] theorem State.configureLines_pinCfg (s : State) :
    s.configureLines.pinCfg = Vector.ofFn fun k : Line => s.build.present k || s.pinCfg[k.val] := rfl
@[simp] theorem State.configureLines_pinOut (s : State) :
    s.configureLines.pinOut = s.pinOut := rfl
@[simp] theorem State.configureLines_cfgPulseUs (s : State) :
    s.configureLines.cfgPulseUs = s.cfgPulseUs := rfl
@[simp] theorem State.configureLines_cfgSweep (s : State) :
    s.configureLines.cfgSweep = s.cfgSweep := rfl
@[simp] theorem State.configureLines_status (s : State) :
    s.configureLines.status = s.status := rfl
@[simp] theorem State.configureLines_grid (s : State) :
    s.configureLines.grid = s.grid := rfl
@[simp] theorem State.configureLines_seq (s : State) :
    s.configureLines.seq = s.seq := rfl
@[simp] theorem State.configureLines_trace (s : State) :
    s.configureLines.trace = s.trace ++ (allLines.filter s.build.present).map Event.configure := rfl
@[simp] theorem State.configureLines_cmd (s : State) :
    s.configureLines.cmd = s.cmd := rfl
@[simp] theorem State.configureLines_frame (s : State) :
    s.configureLines.frame = s.frame := rfl
@[simp] theorem State.configureLines_script (s : State) :
    s.configureLines.script = s.script := rfl
@[simp] theorem State.configureLines_draws (s : State) :
    s.configureLines.draws = s.draws := rfl

/-! ### configureSome -/

@[simp] theorem State.configureSome_build (n : Nat) (s : State) :
    (State.configureSome n s).build = s.build := rfl
@[simp] theorem State.configureSome_pinCfg (n : Nat) (s : State) :
    (State.configureSome n s).pinCfg = Vector.ofFn fun k : Line => if s.build.present k then Config.freeBool (n + k.val) else s.pinCfg[k.val] := rfl
@[simp] theorem State.configureSome_pinOut (n : Nat) (s : State) :
    (State.configureSome n s).pinOut = s.pinOut := rfl
@[simp] theorem State.configureSome_cfgPulseUs (n : Nat) (s : State) :
    (State.configureSome n s).cfgPulseUs = s.cfgPulseUs := rfl
@[simp] theorem State.configureSome_cfgSweep (n : Nat) (s : State) :
    (State.configureSome n s).cfgSweep = s.cfgSweep := rfl
@[simp] theorem State.configureSome_status (n : Nat) (s : State) :
    (State.configureSome n s).status = s.status := rfl
@[simp] theorem State.configureSome_grid (n : Nat) (s : State) :
    (State.configureSome n s).grid = s.grid := rfl
@[simp] theorem State.configureSome_seq (n : Nat) (s : State) :
    (State.configureSome n s).seq = s.seq := rfl
@[simp] theorem State.configureSome_trace (n : Nat) (s : State) :
    (State.configureSome n s).trace = s.trace := rfl
@[simp] theorem State.configureSome_cmd (n : Nat) (s : State) :
    (State.configureSome n s).cmd = s.cmd := rfl
@[simp] theorem State.configureSome_frame (n : Nat) (s : State) :
    (State.configureSome n s).frame = s.frame := rfl
@[simp] theorem State.configureSome_script (n : Nat) (s : State) :
    (State.configureSome n s).script = s.script := rfl
@[simp] theorem State.configureSome_draws (n : Nat) (s : State) :
    (State.configureSome n s).draws = s.draws := rfl

/-! ### resetCore -/

@[simp] theorem State.resetCore_build (s : State) :
    s.resetCore.build = s.build := rfl
@[simp] theorem State.resetCore_pinCfg (s : State) :
    s.resetCore.pinCfg = Vector.replicate 14 false := rfl
@[simp] theorem State.resetCore_pinOut (s : State) :
    s.resetCore.pinOut = Vector.replicate 14 none := rfl
@[simp] theorem State.resetCore_cfgPulseUs (s : State) :
    s.resetCore.cfgPulseUs = 0#32 := rfl
@[simp] theorem State.resetCore_cfgSweep (s : State) :
    s.resetCore.cfgSweep = .rowMajor := rfl
@[simp] theorem State.resetCore_status (s : State) :
    s.resetCore.status = 0#32 := rfl
@[simp] theorem State.resetCore_grid (s : State) :
    s.resetCore.grid = [] := rfl
@[simp] theorem State.resetCore_seq (s : State) :
    s.resetCore.seq = [] := rfl
@[simp] theorem State.resetCore_trace (s : State) :
    s.resetCore.trace = [] := rfl
@[simp] theorem State.resetCore_cmd (s : State) :
    s.resetCore.cmd = s.cmd := rfl
@[simp] theorem State.resetCore_frame (s : State) :
    s.resetCore.frame = s.frame := rfl
@[simp] theorem State.resetCore_script (s : State) :
    s.resetCore.script = s.script := rfl
@[simp] theorem State.resetCore_draws (s : State) :
    s.resetCore.draws = s.draws := rfl

/-! ### clearGrid -/

theorem foldl_gridWrite_build (l : List (Nat × Nat)) (s : State) :
    (l.foldl (fun t rc => t.gridWrite rc.1 rc.2 false) s).build = s.build := by
  induction l generalizing s with
  | nil => rfl
  | cons a l ih => simp [ih]
@[simp] theorem State.clearGrid_build (s : State) : s.clearGrid.build = s.build :=
  foldl_gridWrite_build _ s
theorem foldl_gridWrite_pinCfg (l : List (Nat × Nat)) (s : State) :
    (l.foldl (fun t rc => t.gridWrite rc.1 rc.2 false) s).pinCfg = s.pinCfg := by
  induction l generalizing s with
  | nil => rfl
  | cons a l ih => simp [ih]
@[simp] theorem State.clearGrid_pinCfg (s : State) : s.clearGrid.pinCfg = s.pinCfg :=
  foldl_gridWrite_pinCfg _ s
theorem foldl_gridWrite_pinOut (l : List (Nat × Nat)) (s : State) :
    (l.foldl (fun t rc => t.gridWrite rc.1 rc.2 false) s).pinOut = s.pinOut := by
  induction l generalizing s with
  | nil => rfl
  | cons a l ih => simp [ih]
@[simp] theorem State.clearGrid_pinOut (s : State) : s.clearGrid.pinOut = s.pinOut :=
  foldl_gridWrite_pinOut _ s
theorem foldl_gridWrite_cfgPulseUs (l : List (Nat × Nat)) (s : State) :
    (l.foldl (fun t rc => t.gridWrite rc.1 rc.2 false) s).cfgPulseUs = s.cfgPulseUs := by
  induction l generalizing s with
  | nil => rfl
  | cons a l ih => simp [ih]
@[simp] theorem State.clearGrid_cfgPulseUs (s : State) : s.clearGrid.cfgPulseUs = s.cfgPulseUs :=
  foldl_gridWrite_cfgPulseUs _ s
theorem foldl_gridWrite_cfgSweep (l : List (Nat × Nat)) (s : State) :
    (l.foldl (fun t rc => t.gridWrite rc.1 rc.2 false) s).cfgSweep = s.cfgSweep := by
  induction l generalizing s with
  | nil => rfl
  | cons a l ih => simp [ih]
@[simp] theorem State.clearGrid_cfgSweep (s : State) : s.clearGrid.cfgSweep = s.cfgSweep :=
  foldl_gridWrite_cfgSweep _ s
theorem foldl_gridWrite_status (l : List (Nat × Nat)) (s : State) :
    (l.foldl (fun t rc => t.gridWrite rc.1 rc.2 false) s).status = s.status := by
  induction l generalizing s with
  | nil => rfl
  | cons a l ih => simp [ih]
@[simp] theorem State.clearGrid_status (s : State) : s.clearGrid.status = s.status :=
  foldl_gridWrite_status _ s
theorem foldl_gridWrite_seq (l : List (Nat × Nat)) (s : State) :
    (l.foldl (fun t rc => t.gridWrite rc.1 rc.2 false) s).seq = s.seq := by
  induction l generalizing s with
  | nil => rfl
  | cons a l ih => simp [ih]
@[simp] theorem State.clearGrid_seq (s : State) : s.clearGrid.seq = s.seq :=
  foldl_gridWrite_seq _ s
theorem foldl_gridWrite_trace (l : List (Nat × Nat)) (s : State) :
    (l.foldl (fun t rc => t.gridWrite rc.1 rc.2 false) s).trace = s.trace := by
  induction l generalizing s with
  | nil => rfl
  | cons a l ih => simp [ih]
@[simp] theorem State.clearGrid_trace (s : State) : s.clearGrid.trace = s.trace :=
  foldl_gridWrite_trace _ s
theorem foldl_gridWrite_cmd (l : List (Nat × Nat)) (s : State) :
    (l.foldl (fun t rc => t.gridWrite rc.1 rc.2 false) s).cmd = s.cmd := by
  induction l generalizing s with
  | nil => rfl
  | cons a l ih => simp [ih]
@[simp] theorem State.clearGrid_cmd (s : State) : s.clearGrid.cmd = s.cmd :=
  foldl_gridWrite_cmd _ s
theorem foldl_gridWrite_frame (l : List (Nat × Nat)) (s : State) :
    (l.foldl (fun t rc => t.gridWrite rc.1 rc.2 false) s).frame = s.frame := by
  induction l generalizing s with
  | nil => rfl
  | cons a l ih => simp [ih]
@[simp] theorem State.clearGrid_frame (s : State) : s.clearGrid.frame = s.frame :=
  foldl_gridWrite_frame _ s
theorem foldl_gridWrite_script (l : List (Nat × Nat)) (s : State) :
    (l.foldl (fun t rc => t.gridWrite rc.1 rc.2 false) s).script = s.script := by
  induction l generalizing s with
  | nil => rfl
  | cons a l ih => simp [ih]
@[simp] theorem State.clearGrid_script (s : State) : s.clearGrid.script = s.script :=
  foldl_gridWrite_script _ s
theorem foldl_gridWrite_draws (l : List (Nat × Nat)) (s : State) :
    (l.foldl (fun t rc => t.gridWrite rc.1 rc.2 false) s).draws = s.draws := by
  induction l generalizing s with
  | nil => rfl
  | cons a l ih => simp [ih]
@[simp] theorem State.clearGrid_draws (s : State) : s.clearGrid.draws = s.draws :=
  foldl_gridWrite_draws _ s

end Sys2Proof.Machine
end

