-- ==== Sys2Proof/Laws/Flags.lean ====
section
/-!
SUPPORT. Laws/Flags.lean: each field of STATUS after each write of a field.
-/

namespace Sys2Proof.Machine

theorem putBit_getLsbD (w : BitVec 32) (i : Nat) (hi : i < 32) (v : Bool) (j : Nat) :
    (putBit w i v).getLsbD j = if j = i then v else w.getLsbD j := by
  unfold putBit
  cases v <;> simp only [Bool.false_eq_true, if_false, if_true, BitVec.getLsbD_and, BitVec.getLsbD_or,
    BitVec.getLsbD_not, BitVec.getLsbD_shiftLeft, BitVec.getLsbD_one]
  · by_cases h : j = i
    · subst h; simp [hi]
    · rcases Nat.lt_or_gt_of_ne h with h' | h'
      · simp [h, h', Nat.lt_trans h' hi]
      · by_cases hj : j < 32
        · have : ¬ j < i := by omega
          have : j - i ≠ 0 := by omega
          simp [*]
        · have : w.getLsbD j = false := BitVec.getLsbD_of_ge _ _ (by omega)
          simp [h, this]
  · by_cases h : j = i
    · subst h; simp [hi]
    · have : ¬ (¬ j < i ∧ j - i = 0) := by omega
      by_cases hj : j < i
      · simp [h, hj]
      · have : j - i ≠ 0 := by omega
        simp [h, this]

theorem putBit_code (w : BitVec 32) (i : Nat) (hi : i < 4) (v : Bool) :
    (putBit w i v).extractLsb' 4 4 = w.extractLsb' 4 4 := by
  ext j hj
  simp only [BitVec.getElem_extractLsb', putBit_getLsbD w i (by omega) v]
  rw [if_neg (by omega)]

theorem putCode_getLsbD (w : BitVec 32) (c : BitVec 4) (j : Nat) (hj : j < 4) :
    ((w &&& ~~~(0xF0#32)) ||| (c.setWidth 32 <<< 4)).getLsbD j = w.getLsbD j := by
  have h : (~~~(0xF0#32)).getLsbD j = true := by
    rcases j with _ | _ | _ | _ | j <;> first | rfl | omega
  simp only [BitVec.getLsbD_or, BitVec.getLsbD_and, h, BitVec.getLsbD_shiftLeft, hj]
  simp

theorem putCode_code (w : BitVec 32) (c : BitVec 4) :
    ((w &&& ~~~(0xF0#32)) ||| (c.setWidth 32 <<< 4)).extractLsb' 4 4 = c := by
  ext j hj
  have h : (~~~(0xF0#32)).getLsbD (4 + j) = false := by
    rcases j with _ | _ | _ | _ | j <;> first | rfl | omega
  simp only [BitVec.getElem_extractLsb', BitVec.getLsbD_or, BitVec.getLsbD_and, h, BitVec.getLsbD_shiftLeft,
    BitVec.getLsbD_setWidth, show 4 + j < 32 by omega, show ¬ 4 + j < 4 by omega, show 4 + j - 4 = j by omega,
    show j < 32 by omega, BitVec.getLsbD_eq_getElem hj]
  simp

/-! ### setBusy -/

@[simp] theorem State.setBusy_busy (v : Bool) (s : State) : (State.setBusy v s).busy = v :=
  (putBit_getLsbD s.status 0 (by omega) v 0).trans (by simp)
@[simp] theorem State.setBusy_initialized (v : Bool) (s : State) : (State.setBusy v s).initialized = s.initialized :=
  (putBit_getLsbD s.status 0 (by omega) v 1).trans (by simp [State.initialized])
@[simp] theorem State.setBusy_faulted (v : Bool) (s : State) : (State.setBusy v s).faulted = s.faulted :=
  (putBit_getLsbD s.status 0 (by omega) v 2).trans (by simp [State.faulted])
@[simp] theorem State.setBusy_faultCode (v : Bool) (s : State) : (State.setBusy v s).faultCode = s.faultCode := by
  simp [State.faultCode, putBit_code]

/-! ### setInitialized -/

@[simp] theorem State.setInitialized_busy (v : Bool) (s : State) : (State.setInitialized v s).busy = s.busy :=
  (putBit_getLsbD s.status 1 (by omega) v 0).trans (by simp [State.busy])
@[simp] theorem State.setInitialized_initialized (v : Bool) (s : State) : (State.setInitialized v s).initialized = v :=
  (putBit_getLsbD s.status 1 (by omega) v 1).trans (by simp)
@[simp] theorem State.setInitialized_faulted (v : Bool) (s : State) : (State.setInitialized v s).faulted = s.faulted :=
  (putBit_getLsbD s.status 1 (by omega) v 2).trans (by simp [State.faulted])
@[simp] theorem State.setInitialized_faultCode (v : Bool) (s : State) : (State.setInitialized v s).faultCode = s.faultCode := by
  simp [State.faultCode, putBit_code]

/-! ### setFaulted -/

@[simp] theorem State.setFaulted_busy (v : Bool) (s : State) : (State.setFaulted v s).busy = s.busy :=
  (putBit_getLsbD s.status 2 (by omega) v 0).trans (by simp [State.busy])
@[simp] theorem State.setFaulted_initialized (v : Bool) (s : State) : (State.setFaulted v s).initialized = s.initialized :=
  (putBit_getLsbD s.status 2 (by omega) v 1).trans (by simp [State.initialized])
@[simp] theorem State.setFaulted_faulted (v : Bool) (s : State) : (State.setFaulted v s).faulted = v :=
  (putBit_getLsbD s.status 2 (by omega) v 2).trans (by simp)
@[simp] theorem State.setFaulted_faultCode (v : Bool) (s : State) : (State.setFaulted v s).faultCode = s.faultCode := by
  simp [State.faultCode, putBit_code]

/-! ### setFaultCode -/

@[simp] theorem State.setFaultCode_busy (c : BitVec 4) (s : State) : (State.setFaultCode c s).busy = s.busy := by
  simp only [State.busy, State.setFaultCode_status, putCode_getLsbD _ _ 0 (by omega)]
@[simp] theorem State.setFaultCode_initialized (c : BitVec 4) (s : State) : (State.setFaultCode c s).initialized = s.initialized := by
  simp only [State.initialized, State.setFaultCode_status, putCode_getLsbD _ _ 1 (by omega)]
@[simp] theorem State.setFaultCode_faulted (c : BitVec 4) (s : State) : (State.setFaultCode c s).faulted = s.faulted := by
  simp only [State.faulted, State.setFaultCode_status, putCode_getLsbD _ _ 2 (by omega)]
@[simp] theorem State.setFaultCode_faultCode (c : BitVec 4) (s : State) :
    (State.setFaultCode c s).faultCode = c := by
  simp only [State.faultCode, State.setFaultCode_status, putCode_code]

/-! ### emit -/

@[simp] theorem State.emit_busy (e : Event) (s : State) : (State.emit e s).busy = s.busy := rfl
@[simp] theorem State.emit_initialized (e : Event) (s : State) : (State.emit e s).initialized = s.initialized := rfl
@[simp] theorem State.emit_faulted (e : Event) (s : State) : (State.emit e s).faulted = s.faulted := rfl
@[simp] theorem State.emit_faultCode (e : Event) (s : State) : (State.emit e s).faultCode = s.faultCode := rfl

/-! ### pinWrite -/

@[simp] theorem State.pinWrite_busy (k : Line) (v : Bool) (s : State) : (State.pinWrite k v s).busy = s.busy := rfl
@[simp] theorem State.pinWrite_initialized (k : Line) (v : Bool) (s : State) : (State.pinWrite k v s).initialized = s.initialized := rfl
@[simp] theorem State.pinWrite_faulted (k : Line) (v : Bool) (s : State) : (State.pinWrite k v s).faulted = s.faulted := rfl
@[simp] theorem State.pinWrite_faultCode (k : Line) (v : Bool) (s : State) : (State.pinWrite k v s).faultCode = s.faultCode := rfl

/-! ### drawn -/

@[simp] theorem State.drawn_busy (n : Nat) (s : State) : (State.drawn n s).busy = s.busy := rfl
@[simp] theorem State.drawn_initialized (n : Nat) (s : State) : (State.drawn n s).initialized = s.initialized := rfl
@[simp] theorem State.drawn_faulted (n : Nat) (s : State) : (State.drawn n s).faulted = s.faulted := rfl
@[simp] theorem State.drawn_faultCode (n : Nat) (s : State) : (State.drawn n s).faultCode = s.faultCode := rfl

/-! ### gridWrite -/

@[simp] theorem State.gridWrite_busy (r c : Nat) (v : Bool) (s : State) : (State.gridWrite r c v s).busy = s.busy := rfl
@[simp] theorem State.gridWrite_initialized (r c : Nat) (v : Bool) (s : State) : (State.gridWrite r c v s).initialized = s.initialized := rfl
@[simp] theorem State.gridWrite_faulted (r c : Nat) (v : Bool) (s : State) : (State.gridWrite r c v s).faulted = s.faulted := rfl
@[simp] theorem State.gridWrite_faultCode (r c : Nat) (v : Bool) (s : State) : (State.gridWrite r c v s).faultCode = s.faultCode := rfl

/-! ### expand -/

@[simp] theorem State.expand_busy (ws : List UopWord) (s : State) : (State.expand ws s).busy = s.busy := rfl
@[simp] theorem State.expand_initialized (ws : List UopWord) (s : State) : (State.expand ws s).initialized = s.initialized := rfl
@[simp] theorem State.expand_faulted (ws : List UopWord) (s : State) : (State.expand ws s).faulted = s.faulted := rfl
@[simp] theorem State.expand_faultCode (ws : List UopWord) (s : State) : (State.expand ws s).faultCode = s.faultCode := rfl

/-! ### setConfig -/

@[simp] theorem State.setConfig_busy (pulse : BitVec 32) (mode : SweepMode) (s : State) :
    (State.setConfig pulse mode s).busy = s.busy := rfl
@[simp] theorem State.setConfig_initialized (pulse : BitVec 32) (mode : SweepMode) (s : State) :
    (State.setConfig pulse mode s).initialized = s.initialized := rfl
@[simp] theorem State.setConfig_faulted (pulse : BitVec 32) (mode : SweepMode) (s : State) :
    (State.setConfig pulse mode s).faulted = s.faulted := rfl
@[simp] theorem State.setConfig_faultCode (pulse : BitVec 32) (mode : SweepMode) (s : State) :
    (State.setConfig pulse mode s).faultCode = s.faultCode := rfl

/-! ### consume -/

@[simp] theorem State.consume_busy (s : State) : s.consume.busy = s.busy := rfl
@[simp] theorem State.consume_initialized (s : State) : s.consume.initialized = s.initialized := rfl
@[simp] theorem State.consume_faulted (s : State) : s.consume.faulted = s.faulted := rfl
@[simp] theorem State.consume_faultCode (s : State) : s.consume.faultCode = s.faultCode := rfl

/-! ### waited -/

@[simp] theorem State.waited_busy (kind : DelayKind) (s : State) : (State.waited kind s).busy = s.busy := rfl
@[simp] theorem State.waited_initialized (kind : DelayKind) (s : State) : (State.waited kind s).initialized = s.initialized := rfl
@[simp] theorem State.waited_faulted (kind : DelayKind) (s : State) : (State.waited kind s).faulted = s.faulted := rfl
@[simp] theorem State.waited_faultCode (kind : DelayKind) (s : State) : (State.waited kind s).faultCode = s.faultCode := rfl

/-! ### configureLines -/

@[simp] theorem State.configureLines_busy (s : State) : s.configureLines.busy = s.busy := rfl
@[simp] theorem State.configureLines_initialized (s : State) : s.configureLines.initialized = s.initialized := rfl
@[simp] theorem State.configureLines_faulted (s : State) : s.configureLines.faulted = s.faulted := rfl
@[simp] theorem State.configureLines_faultCode (s : State) : s.configureLines.faultCode = s.faultCode := rfl

/-! ### configureSome -/

@[simp] theorem State.configureSome_busy (n : Nat) (s : State) : (State.configureSome n s).busy = s.busy := rfl
@[simp] theorem State.configureSome_initialized (n : Nat) (s : State) : (State.configureSome n s).initialized = s.initialized := rfl
@[simp] theorem State.configureSome_faulted (n : Nat) (s : State) : (State.configureSome n s).faulted = s.faulted := rfl
@[simp] theorem State.configureSome_faultCode (n : Nat) (s : State) : (State.configureSome n s).faultCode = s.faultCode := rfl

/-! ### clearGrid -/

@[simp] theorem State.clearGrid_busy (s : State) : s.clearGrid.busy = s.busy := by
  simp [State.busy]
@[simp] theorem State.clearGrid_initialized (s : State) : s.clearGrid.initialized = s.initialized := by
  simp [State.initialized]
@[simp] theorem State.clearGrid_faulted (s : State) : s.clearGrid.faulted = s.faulted := by
  simp [State.faulted]
@[simp] theorem State.clearGrid_faultCode (s : State) : s.clearGrid.faultCode = s.faultCode := by
  simp [State.faultCode]

/-! ### retire -/

@[simp] theorem State.retire_busy (s : State) :
    s.retire.busy = if s.seq.tail = [] then false else s.busy := by
  unfold State.retire; split
  · exact State.setBusy_busy _ _
  · rfl
@[simp] theorem State.retire_initialized (s : State) : s.retire.initialized = s.initialized := by
  unfold State.retire; split
  · exact State.setBusy_initialized _ _
  · rfl
@[simp] theorem State.retire_faulted (s : State) : s.retire.faulted = s.faulted := by
  unfold State.retire; split
  · exact State.setBusy_faulted _ _
  · rfl
@[simp] theorem State.retire_faultCode (s : State) : s.retire.faultCode = s.faultCode := by
  unfold State.retire; split
  · exact State.setBusy_faultCode _ _
  · rfl

/-! ### begin -/

@[simp] theorem State.begin_busy (ws : List UopWord) (s : State) : (State.begin ws s).busy = !ws.isEmpty :=
  State.setBusy_busy _ _
@[simp] theorem State.begin_initialized (ws : List UopWord) (s : State) : (State.begin ws s).initialized = s.initialized :=
  State.setBusy_initialized _ _
@[simp] theorem State.begin_faulted (ws : List UopWord) (s : State) : (State.begin ws s).faulted = s.faulted :=
  State.setBusy_faulted _ _
@[simp] theorem State.begin_faultCode (ws : List UopWord) (s : State) : (State.begin ws s).faultCode = s.faultCode :=
  State.setBusy_faultCode _ _

/-! ### raise: what recording a fault does (60 R115) -/

@[simp] theorem State.raise_busy (c : FaultCode) (s : State) : (State.raise c s).busy = false :=
  State.setBusy_busy _ _
@[simp] theorem State.raise_initialized (c : FaultCode) (s : State) :
    (State.raise c s).initialized = s.initialized := by
  unfold State.raise
  refine (State.setBusy_initialized _ _).trans ?_
  cases h : s.faulted
  · exact (State.setFaultCode_initialized _ _).trans (State.setFaulted_initialized _ _)
  · rfl
@[simp] theorem State.raise_faulted (c : FaultCode) (s : State) : (State.raise c s).faulted = true := by
  unfold State.raise
  refine (State.setBusy_faulted _ _).trans ?_
  cases h : s.faulted
  · exact (State.setFaultCode_faulted _ _).trans (State.setFaulted_faulted _ _)
  · exact h
@[simp] theorem State.raise_faultCode (c : FaultCode) (s : State) :
    (State.raise c s).faultCode = if s.faulted then s.faultCode else c.number := by
  unfold State.raise
  refine (State.setBusy_faultCode _ _).trans ?_
  cases h : s.faulted
  · exact State.setFaultCode_faultCode _ _
  · rfl

/-! ### resetCore -/

@[simp] theorem State.resetCore_busy (s : State) : s.resetCore.busy = false := by
  simp [State.busy]
@[simp] theorem State.resetCore_initialized (s : State) : s.resetCore.initialized = false := by
  simp [State.initialized]
@[simp] theorem State.resetCore_faulted (s : State) : s.resetCore.faulted = false := by
  simp [State.faulted]
@[simp] theorem State.resetCore_faultCode (s : State) : s.resetCore.faultCode = 0#4 := by
  simp [State.faultCode]

end Sys2Proof.Machine
end

