-- ==== Sys2Proof/Laws/Memory.lean ====
section
/-!
SUPPORT. Laws/Memory.lean: the laws of the grid: read after write, every other cell unchanged, and the canonical form
kept by every operation.
-/

namespace Sys2Proof.Machine

/-! ### Memory -/

theorem Memory.read_write_same (m : Memory) (a : Nat) (v : Bool) : (m.write a v).read a = some v := by
  induction m with
  | nil => simp [Memory.write, Memory.read]
  | cons p m ih =>
    obtain ⟨k, x⟩ := p
    simp only [Memory.write]
    split
    · simp [Memory.read]
    · split
      · simp [Memory.read]
      · simp [Memory.read, ih, Ne.symm ‹¬ a = k›]

theorem Memory.read_write_of_ne (m : Memory) (a b : Nat) (v : Bool) (h : b ≠ a) :
    (m.write a v).read b = m.read b := by
  induction m with
  | nil => simp [Memory.write, Memory.read, Ne.symm h]
  | cons p m ih =>
    obtain ⟨k, x⟩ := p
    simp only [Memory.write]
    split
    · simp [Memory.read, Ne.symm h]
    · split
      · subst_vars; simp [Memory.read, Ne.symm h]
      · simp [Memory.read, ih]

theorem Memory.mem_write (m : Memory) (a : Nat) (v : Bool) (p : Nat × Bool) (h : p ∈ m.write a v) :
    p = (a, v) ∨ p ∈ m := by
  induction m with
  | nil => simpa [Memory.write] using h
  | cons q m ih =>
    obtain ⟨k, x⟩ := q
    simp only [Memory.write] at h
    split at h
    · simpa using h
    · split at h
      · rcases List.mem_cons.1 h with h | h <;> simp [h]
      · rcases List.mem_cons.1 h with h | h
        · simp [h]
        · rcases ih h with h | h <;> simp [h]

/-- A write keeps the canonical form. -/
theorem Memory.write_wf (m : Memory) (a : Nat) (v : Bool) (h : m.wf) : (m.write a v).wf := by
  induction m with
  | nil => simp [Memory.write, Memory.wf]
  | cons q m ih =>
    obtain ⟨k, x⟩ := q
    obtain ⟨hk, hm⟩ := List.pairwise_cons.1 h
    simp only [Memory.write]
    split
    · refine List.pairwise_cons.2 ⟨fun p hp => ?_, h⟩
      rcases List.mem_cons.1 hp with rfl | hp
      · assumption
      · exact Nat.lt_trans ‹a < k› (hk p hp)
    · split
      · subst_vars; exact List.pairwise_cons.2 ⟨hk, hm⟩
      · refine List.pairwise_cons.2 ⟨fun p hp => ?_, ih hm⟩
        rcases Memory.mem_write m a v p hp with rfl | hp
        · show k < a; omega
        · exact hk p hp

theorem Memory.reset_wf : State.reset.grid.wf := List.Pairwise.nil

/-! ### GridRead and GridWrite -/

/-- Two cells of the grid with one number are one cell. -/
theorem cellNumber_inj (b : Build) (r c r' c' : Nat) (h : inGrid b r c = true) (h' : inGrid b r' c' = true)
    (e : cellNumber b r c = cellNumber b r' c') : r = r' ∧ c = c' := by
  simp only [inGrid, Bool.and_eq_true, decide_eq_true_eq] at h h'
  have hw : 0 < b.width := by omega
  unfold cellNumber at e
  have hr : (r * b.width + c) / b.width = (r' * b.width + c') / b.width := by rw [e]
  have hc : (r * b.width + c) % b.width = (r' * b.width + c') % b.width := by rw [e]
  rw [Nat.mul_comm r, Nat.mul_comm r', Nat.mul_add_div hw, Nat.mul_add_div hw, Nat.div_eq_of_lt h.2,
    Nat.div_eq_of_lt h'.2] at hr
  rw [Nat.mul_comm r, Nat.mul_comm r', Nat.mul_add_mod, Nat.mul_add_mod, Nat.mod_eq_of_lt h.2,
    Nat.mod_eq_of_lt h'.2] at hc
  exact ⟨by omega, hc⟩

/-- A cell's number is below HEIGHT * WIDTH. -/
theorem cellNumber_lt (b : Build) (r c : Nat) (h : inGrid b r c = true) :
    cellNumber b r c < b.height * b.width := by
  simp only [inGrid, Bool.and_eq_true, decide_eq_true_eq] at h
  calc r * b.width + c < r * b.width + b.width := by omega
    _ = (r + 1) * b.width := (Nat.succ_mul r b.width).symm
    _ ≤ b.height * b.width := Nat.mul_le_mul_right _ h.1

/-- GridRead depends on the build and the grid only. -/
theorem State.gridRead_congr (s t : State) (hb : t.build = s.build) (hg : t.grid = s.grid) (r c : Nat) :
    t.gridRead r c = s.gridRead r c := by
  simp [State.gridRead, hb, hg]

theorem State.gridRead_gridWrite_same (s : State) (r c : Nat) (v : Bool) (h : inGrid s.build r c = true) :
    (State.gridWrite r c v s).gridRead r c = some v := by
  simp [State.gridRead, h, Memory.read_write_same]

theorem State.gridRead_gridWrite_other (s : State) (r c r' c' : Nat) (v : Bool)
    (h : inGrid s.build r c = true) (hne : (r', c') ≠ (r, c)) :
    (State.gridWrite r c v s).gridRead r' c' = s.gridRead r' c' := by
  simp only [State.gridRead, State.gridWrite_build, State.gridWrite_grid]
  by_cases hin : inGrid s.build r' c' = true
  · simp only [hin, if_true]
    refine Memory.read_write_of_ne _ _ _ _ fun e => hne ?_
    obtain ⟨rfl, rfl⟩ := cellNumber_inj _ _ _ _ _ hin h e
    rfl
  · simp [hin]

/-! ### Every operation keeps the canonical form -/

theorem State.gridWrite_wf (r c : Nat) (v : Bool) (s : State) (h : s.grid.wf) :
    (State.gridWrite r c v s).grid.wf := Memory.write_wf _ _ _ h

theorem foldl_gridWrite_wf (l : List (Nat × Nat)) (s : State) (h : s.grid.wf) :
    (l.foldl (fun t rc => t.gridWrite rc.1 rc.2 false) s).grid.wf := by
  induction l generalizing s with
  | nil => exact h
  | cons a l ih => exact ih _ (State.gridWrite_wf _ _ _ _ h)

theorem State.clearGrid_wf (s : State) (h : s.grid.wf) : s.clearGrid.grid.wf := foldl_gridWrite_wf _ s h

/-! ### GRID_CLEAR's loop -/

theorem mem_cells (b : Build) (r c : Nat) : (r, c) ∈ cells b ↔ inGrid b r c = true := by
  simp [cells, inGrid]

theorem cells_nodup (b : Build) : (cells b).Nodup := by
  refine List.nodup_flatMap.2 ⟨fun r _ => (List.nodup_range).map fun a c e => (Prod.mk.inj e).2, ?_⟩
  refine List.nodup_range.imp fun {r r'} hne => ?_
  intro x hx hx'
  obtain ⟨_, _, rfl⟩ := List.mem_map.1 hx
  obtain ⟨_, _, e⟩ := List.mem_map.1 hx'
  exact hne (Prod.mk.inj e).1.symm

theorem foldl_gridWrite_gridRead (l : List (Nat × Nat)) (s : State) (hl : ∀ rc ∈ l, inGrid s.build rc.1 rc.2 = true)
    (r c : Nat) :
    (l.foldl (fun t rc => t.gridWrite rc.1 rc.2 false) s).gridRead r c =
      if (r, c) ∈ l then some false else s.gridRead r c := by
  induction l generalizing s with
  | nil => simp
  | cons a l ih =>
    obtain ⟨ra, ca⟩ := a
    have ha : inGrid s.build ra ca = true := hl (ra, ca) (by simp)
    rw [List.foldl_cons, ih _ fun rc h => by simpa using hl rc (by simp [h])]
    by_cases hin : (r, c) ∈ l
    · simp [hin]
    · by_cases he : (r, c) = (ra, ca)
      · obtain ⟨rfl, rfl⟩ := Prod.mk.inj he
        simp [hin, State.gridRead_gridWrite_same s _ _ false ha]
      · rw [if_neg hin, if_neg (by simp [hin, he]), State.gridRead_gridWrite_other s _ _ _ _ _ ha he]

/-- After GRID_CLEAR's loop every cell of the grid reads 0. -/
theorem State.clearGrid_gridRead (s : State) (r c : Nat) :
    s.clearGrid.gridRead r c = if inGrid s.build r c then some false else none := by
  unfold State.clearGrid
  rw [foldl_gridWrite_gridRead _ _ fun rc h => (mem_cells s.build rc.1 rc.2).1 h]
  simp only [mem_cells]
  split
  · rfl
  · simp [State.gridRead, *]

theorem foldl_gridWrite_cells (l : List (Nat × Nat)) (s : State) (n : Nat)
    (hl : ∀ rc ∈ l, cellNumber s.build rc.1 rc.2 < n) (h : ∀ p ∈ s.grid, p.1 < n) :
    ∀ p ∈ (l.foldl (fun t rc => t.gridWrite rc.1 rc.2 false) s).grid, p.1 < n := by
  induction l generalizing s with
  | nil => exact h
  | cons a l ih =>
    refine ih _ (fun rc hrc => hl rc (by simp [hrc])) fun p hp => ?_
    rcases Memory.mem_write _ _ _ _ hp with rfl | hp
    · exact hl a (by simp)
    · exact h p hp

/-- GRID_CLEAR's loop lists cells of the grid only. -/
theorem State.clearGrid_cells (s : State) (h : ∀ p ∈ s.grid, p.1 < s.build.height * s.build.width) :
    ∀ p ∈ s.clearGrid.grid, p.1 < s.build.height * s.build.width :=
  foldl_gridWrite_cells _ s _ (fun _ hrc => cellNumber_lt _ _ _ ((mem_cells _ _ _).1 hrc)) h

end Sys2Proof.Machine
end

