-- ==== Sys2Proof/Laws/PerInstr.lean ====
section
/-!
SUPPORT. Laws/PerInstr.lean: for every instruction, the word the encoder gives it has the mask and match of its row in
spec/opcode_table.json (30_encoding.md R56, R57).
-/

namespace Sys2Proof.Laws.RowPattern

/-- The word is a command word with this mask and match. -/
def isCmd (mask value : CmdWord) : Code → Prop
  | .cmd w => w &&& mask = value
  | .uop _ => False

/-- The word is a micro-operation word with this mask and match. -/
def isUop (mask value : UopWord) : Code → Prop
  | .cmd _ => False
  | .uop w => w &&& mask = value

def Statement (i : Instr) : Prop :=
  match i with
  | .init _ _ => isCmd 0x00000000FFFFFFCF#64 0x0000000000000001#64 (encode i)
  | .setPixel _ _ _ => isCmd 0xFFFFFFFFFF0000BF#64 0x0000000000000002#64 (encode i)
  | .updateFrame => isCmd 0xFFFFFFFFFFFFFFFF#64 0x0000000000000003#64 (encode i)
  | .pinWrite _ _ => isUop 0xF0FE#16 0x1000#16 (encode i)
  | .ldSetOutput _ _ => isUop 0xFEF0#16 0x2000#16 (encode i)
  | .edSetRowOutput _ _ => isUop 0xFFC0#16 0x3000#16 (encode i)
  | .edSetColOutput _ _ => isUop 0xFFC0#16 0x4000#16 (encode i)
  | .enableChannel _ => isUop 0xFFFC#16 0x5000#16 (encode i)
  | .disableChannel _ => isUop 0xFFFC#16 0x6000#16 (encode i)
  | .delay _ => isUop 0xFFFC#16 0x7000#16 (encode i)
  | .gridWrite _ _ _ => isUop 0xF800#16 0x8000#16 (encode i)
  | .pinConfig => isUop 0xFFFF#16 0x9000#16 (encode i)
  | .gridClear => isUop 0xFFFF#16 0xA000#16 (encode i)
  | .initDone => isUop 0xFFFF#16 0xB000#16 (encode i)

theorem init (pulse : BitVec 32) (mode : SweepMode) : Statement (.init pulse mode) := by
  show (pulse ++ 0#26 ++ mode.bits ++ 0x1#4) &&& (0#32 ++ 0x3FFFFFF#26 ++ 0#2 ++ 0xF#4) = 0x1#64
  rw [BitVec.and_append, BitVec.and_append, BitVec.and_append, BitVec.and_zero, BitVec.and_zero]
  rfl

theorem setPixel (row col : BitVec 8) (val : Bool) : Statement (.setPixel row col val) := by
  show (0#40 ++ col ++ row ++ 0#1 ++ BitVec.ofBool val ++ 0#2 ++ 0x2#4) &&&
    (0xFFFFFFFFFF#40 ++ 0#8 ++ 0#8 ++ 1#1 ++ 0#1 ++ 3#2 ++ 0xF#4) = 0x2#64
  rw [BitVec.and_append, BitVec.and_append, BitVec.and_append, BitVec.and_append, BitVec.and_append,
    BitVec.and_append, BitVec.and_zero, BitVec.and_zero, BitVec.and_zero]
  rfl

theorem updateFrame : Statement .updateFrame := by
  show wordUpdateFrame &&& _ = _
  rfl

theorem pinWrite (k : BitVec 4) (v : Bool) : Statement (.pinWrite k v) := by
  show (0x1#4 ++ k ++ 0#7 ++ BitVec.ofBool v) &&& (0xF#4 ++ 0#4 ++ 0x7F#7 ++ 0#1) = 0x1000#16
  rw [BitVec.and_append, BitVec.and_append, BitVec.and_append, BitVec.and_zero, BitVec.and_zero]
  rfl

theorem ldSetOutput (d : Decoder) (p : BitVec 4) : Statement (.ldSetOutput d p) := by
  show (0x2#4 ++ 0#3 ++ BitVec.ofBool d.bit ++ 0#4 ++ p) &&& (0xF#4 ++ 7#3 ++ 0#1 ++ 0xF#4 ++ 0#4) = 0x2000#16
  rw [BitVec.and_append, BitVec.and_append, BitVec.and_append, BitVec.and_append, BitVec.and_zero,
    BitVec.and_zero]
  rfl

theorem edSetRowOutput (g : BitVec 2) (p : BitVec 4) : Statement (.edSetRowOutput g p) := by
  show (0x3#4 ++ 0#6 ++ g ++ p) &&& (0xF#4 ++ 0x3F#6 ++ 0#2 ++ 0#4) = 0x3000#16
  rw [BitVec.and_append, BitVec.and_append, BitVec.and_append, BitVec.and_zero, BitVec.and_zero]
  rfl

theorem edSetColOutput (g : BitVec 2) (p : BitVec 4) : Statement (.edSetColOutput g p) := by
  show (0x4#4 ++ 0#6 ++ g ++ p) &&& (0xF#4 ++ 0x3F#6 ++ 0#2 ++ 0#4) = 0x4000#16
  rw [BitVec.and_append, BitVec.and_append, BitVec.and_append, BitVec.and_zero, BitVec.and_zero]
  rfl

theorem enableChannel (cc : BitVec 2) : Statement (.enableChannel cc) := by
  show (0x5#4 ++ 0#10 ++ cc) &&& (0xF#4 ++ 0x3FF#10 ++ 0#2) = 0x5000#16
  rw [BitVec.and_append, BitVec.and_append, BitVec.and_zero]
  rfl

theorem disableChannel (cc : BitVec 2) : Statement (.disableChannel cc) := by
  show (0x6#4 ++ 0#10 ++ cc) &&& (0xF#4 ++ 0x3FF#10 ++ 0#2) = 0x6000#16
  rw [BitVec.and_append, BitVec.and_append, BitVec.and_zero]
  rfl

theorem delay (tt : BitVec 2) : Statement (.delay tt) := by
  show (0x7#4 ++ 0#10 ++ tt) &&& (0xF#4 ++ 0x3FF#10 ++ 0#2) = 0x7000#16
  rw [BitVec.and_append, BitVec.and_append, BitVec.and_zero]
  rfl

theorem gridWrite (r c : BitVec 5) (v : Bool) : Statement (.gridWrite r c v) := by
  show (0x8#4 ++ 0#1 ++ r ++ c ++ BitVec.ofBool v) &&& (0xF#4 ++ 1#1 ++ 0#5 ++ 0#5 ++ 0#1) = 0x8000#16
  rw [BitVec.and_append, BitVec.and_append, BitVec.and_append, BitVec.and_append, BitVec.and_zero,
    BitVec.and_zero, BitVec.and_zero]
  rfl

theorem pinConfig : Statement .pinConfig := by
  show wordPinConfig &&& _ = _
  rfl

theorem gridClear : Statement .gridClear := by
  show wordGridClear &&& _ = _
  rfl

theorem initDone : Statement .initDone := by
  show wordInitDone &&& _ = _
  rfl

end Sys2Proof.Laws.RowPattern
end

