-- ==== Sys2Proof/Laws/Step.lean ====
section
/-!
SUPPORT. Laws/Step.lean: once for each shared operation of the step, everything it can do: acceptance, fetch, a turn of
the core, a turn.
-/

namespace Sys2Proof.Machine

/-- Acceptance holds the command, raises the fault of check 2, or goes on with the command consumed (60 R116). -/
theorem accept_cases (wanted : Bool) (code : FaultCode) (action : State → Host.Outcome State Fault Refusal)
    (s : State) :
    (s.ready = false ∧ accept wanted code action s = .next s) ∨
    (s.ready = true ∧ s.initialized = wanted ∧ accept wanted code action s = action s.consume) ∨
    (s.ready = true ∧ s.initialized ≠ wanted ∧
      accept wanted code action s = .next (State.raise code s.consume)) := by
  unfold accept
  cases hr : s.ready
  · exact .inl ⟨rfl, rfl⟩
  · by_cases hi : s.initialized = wanted
    · exact .inr (.inl ⟨rfl, hi, by simp [hi]⟩)
    · exact .inr (.inr ⟨rfl, hi, by simp [hi]⟩)

theorem ready_iff (s : State) : s.ready = true ↔ s.busy = false ∧ s.faulted = false := by
  simp [State.ready]

/-- The core performs the head of `SEQ`, else it accepts the command on the port when it is ready. -/
theorem fetch_eq_some (s : State) (c : Code) :
    s.fetch = some c ↔ (∃ u us, s.seq = u :: us ∧ c = .uop u) ∨
      (s.seq = [] ∧ s.ready = true ∧ ∃ w, s.cmd = some w ∧ c = .cmd w) := by
  unfold State.fetch
  cases hs : s.seq with
  | cons u us =>
    constructor
    · intro h; exact .inl ⟨u, us, rfl, (Option.some.inj h).symm⟩
    · rintro (⟨u', us', e, rfl⟩ | ⟨e, -⟩)
      · cases e; rfl
      · cases e
  | nil =>
    cases hr : s.ready with
    | false => simp
    | true =>
      cases hc : s.cmd with
      | none => simp
      | some w => simp [eq_comm]

theorem performWord_ok (c : Code) (i : Instr) (s : State) (h : decode c = .ok i) :
    performWord c s = exec i s := by
  simp [performWord, h]

theorem performWord_error (c : Code) (e : Reject) (s : State) (h : decode c = .error e) :
    performWord c s = .next (s.rejectWord c) := by
  simp [performWord, h]

/-- A turn of the core: it does not move, or it performs the word it fetches. -/
theorem coreTurn_cases (s : State) :
    (s.faulted = true ∧ coreTurn s = .next s) ∨
    (s.faulted = false ∧ s.fetch = none ∧ coreTurn s = .next s) ∨
    (∃ c, s.faulted = false ∧ s.fetch = some c ∧ coreTurn s = performWord c s) := by
  unfold coreTurn
  cases hf : s.faulted with
  | true => exact .inl ⟨rfl, rfl⟩
  | false =>
    cases hc : s.fetch with
    | none => exact .inr (.inl ⟨rfl, rfl, rfl⟩)
    | some c => exact .inr (.inr ⟨c, rfl, rfl, rfl⟩)

/-- A step: the machine has stopped, or it is a turn of the core, or one of the host. -/
theorem step_cases (s : State) :
    (s.script = [] ∧ s.faulted = true ∧ step s = .fault (.stopped s.faultCode)) ∨
    (s.script = [] ∧ s.faulted = false ∧ step s = coreTurn s) ∨
    (∃ rest, s.script = .core :: rest ∧ step s = coreTurn { s with script := rest }) ∨
    (∃ a rest, s.script = .host a :: rest ∧ step s = .next (State.hostAct a { s with script := rest })) := by
  unfold step takeTurn
  cases hs : s.script with
  | nil =>
    cases hf : s.faulted with
    | true => exact .inl ⟨rfl, rfl, rfl⟩
    | false => exact .inr (.inl ⟨rfl, rfl, rfl⟩)
  | cons x rest =>
    cases x with
    | core => exact .inr (.inr (.inl ⟨rest, rfl, rfl⟩))
    | host a => exact .inr (.inr (.inr ⟨a, rest, rfl, rfl⟩))

/-! ### What the meanings are made of -/

theorem lineOf_eq_some (b : Build) (k : BitVec 4) (line : Line) :
    lineOf b k = some line ↔ k.toNat = line.val ∧ b.present line = true := by
  unfold lineOf
  split
  · rename_i h
    split
    · simp only [Option.some.injEq]
      constructor
      · rintro rfl; exact ⟨rfl, ‹_›⟩
      · rintro ⟨e, -⟩; exact Fin.ext e
    · simp only [reduceCtorEq, false_iff, not_and]
      intro e hp
      have : (⟨k.toNat, h⟩ : Line) = line := Fin.ext e
      simp_all
  · simp only [reduceCtorEq, false_iff, not_and]
    intro e; omega

/-- PIN_WRITE raises the fault, is refused, or writes the line. -/
theorem execPinWrite_cases (k : BitVec 4) (v : Bool) (s : State) :
    (lineOf s.build k = none ∧ execPinWrite k v s = .next (State.raise .illegalUop s)) ∨
    (∃ line, lineOf s.build k = some line ∧ s.pinCfg[line.val] = false ∧
      execPinWrite k v s = .refused .unconfiguredLine) ∨
    (∃ line, lineOf s.build k = some line ∧ s.pinCfg[line.val] = true ∧
      execPinWrite k v s = .next (State.retire (State.pinWrite line v s))) := by
  unfold execPinWrite
  cases hl : lineOf s.build k with
  | none => exact .inl ⟨rfl, rfl⟩
  | some line =>
    cases hc : s.pinCfg[line.val] with
    | false => exact .inr (.inl ⟨line, rfl, hc, by simp [hc]⟩)
    | true => exact .inr (.inr ⟨line, rfl, hc, by simp [hc]⟩)

/-- A channel command raises the fault or expands to one pin write. -/
theorem driveChannel_cases (cc : BitVec 2) (v : Bool) (s : State) :
    (channelLine cc = none ∧ driveChannel cc v s = .next (State.raise .illegalUop s)) ∨
    (∃ k, channelLine cc = some k ∧ driveChannel cc v s = .next (State.expand [wordPinWrite k v] s)) := by
  unfold driveChannel
  cases channelLine cc with
  | none => exact .inl ⟨rfl, rfl⟩
  | some k => exact .inr ⟨k, rfl, rfl⟩

/-- DELAY raises the fault or waits. -/
theorem execDelay_cases (tt : BitVec 2) (s : State) :
    (delayKindOf tt = none ∧ execDelay tt s = .next (State.raise .illegalUop s)) ∨
    (∃ kind, delayKindOf tt = some kind ∧ execDelay tt s = .next (State.retire (State.waited kind s))) := by
  unfold execDelay
  cases delayKindOf tt with
  | none => exact .inl ⟨rfl, rfl⟩
  | some kind => exact .inr ⟨kind, rfl, rfl⟩

/-- GRID_WRITE raises the fault or writes the cell. -/
theorem execGridWrite_cases (r c : BitVec 5) (v : Bool) (s : State) :
    (inGrid s.build r.toNat c.toNat = false ∧ execGridWrite r c v s = .next (State.raise .illegalUop s)) ∨
    (inGrid s.build r.toNat c.toNat = true ∧
      execGridWrite r c v s = .next (State.retire (State.gridWrite r.toNat c.toNat v s))) := by
  unfold execGridWrite
  cases inGrid s.build r.toNat c.toNat with
  | false => exact .inl ⟨rfl, rfl⟩
  | true => exact .inr ⟨rfl, rfl⟩

/-- PIN_CONFIG configures every present line, or some and raises the fault. -/
theorem execPinConfig_cases (s : State) :
    execPinConfig s = .next (State.retire (State.drawn 1 s.configureLines)) ∨
    execPinConfig s = .next (State.raise .pinCfg (State.drawn 15 (State.configureSome (s.draws + 1) s))) := by
  unfold execPinConfig
  cases Config.freeBool s.draws with
  | false => exact .inr rfl
  | true => exact .inl rfl

/-- SET_PIXEL after check 2: the range fault, or the pixel sequence. -/
theorem startPixel_cases (row col : BitVec 8) (val : Bool) (s : State) :
    (inGrid s.build row.toNat col.toNat = false ∧ startPixel row col val s = .next (State.raise .range s)) ∨
    (inGrid s.build row.toNat col.toNat = true ∧
      startPixel row col val s = .next (State.begin (pixelSeq s.build val (row.toNat, col.toNat)) s)) := by
  unfold startPixel
  cases inGrid s.build row.toNat col.toNat with
  | false => exact .inl ⟨rfl, rfl⟩
  | true => exact .inr ⟨rfl, rfl⟩

/-- UPDATE_FRAME after check 2: the dimension fault, the refusal of a cell without a value, or the sweep. -/
theorem startFrame_cases (s : State) :
    (frameFits s.build s.frame = false ∧ startFrame s = .next (State.raise .frameDim s)) ∨
    (frameFits s.build s.frame = true ∧ s.diff = none ∧ startFrame s = .refused .unwrittenCell) ∨
    (∃ ds, frameFits s.build s.frame = true ∧ s.diff = some ds ∧
      startFrame s = .next (State.drawn s.sweepDraws (State.begin (s.sweepSeq ds) s))) := by
  unfold startFrame
  cases frameFits s.build s.frame with
  | false => exact .inl ⟨rfl, rfl⟩
  | true =>
    cases s.diff with
    | none => exact .inr (.inl ⟨rfl, rfl, rfl⟩)
    | some ds => exact .inr (.inr ⟨ds, rfl, rfl, rfl⟩)

theorem diffAmong_congr (s t : State) (hb : t.build = s.build) (hg : t.grid = s.grid) (hf : t.frame = s.frame)
    (l : List (Nat × Nat)) : diffAmong t l = diffAmong s l := by
  induction l with
  | nil => rfl
  | cons a l ih =>
    obtain ⟨r, c⟩ := a
    simp only [diffAmong, ih, State.gridRead_congr s t hb hg, hf]

/-- The diff reads the build, the grid and the frame only. -/
theorem State.diff_consume (s : State) : s.consume.diff = s.diff :=
  diffAmong_congr s s.consume rfl rfl rfl _

/-! ### Legality of fields -/

theorem wellFormed_pinWrite (b : Build) (k : BitVec 4) (v : Bool) :
    WellFormed b (.pinWrite k v) = (lineOf b k).isSome := by
  unfold WellFormed lineOf Build.present
  by_cases h : k.toNat < 14
  · rw [dif_pos h]
    have h13 : k.toNat ≤ 13 := by omega
    by_cases h3 : k = 3#4
    · subst h3; cases b.rowA3 <;> simp
    · by_cases h7 : k = 7#4
      · subst h7; cases b.colA3 <;> simp
      · have e3 : ¬ (⟨k.toNat, h⟩ : Line) = 3 := fun e => h3 (BitVec.eq_of_toNat_eq (Fin.mk.inj_iff.1 e))
        have e7 : ¬ (⟨k.toNat, h⟩ : Line) = 7 := fun e => h7 (BitVec.eq_of_toNat_eq (Fin.mk.inj_iff.1 e))
        simp [h13, h3, h7, e3, e7]
  · rw [dif_neg h]
    have h13 : ¬ k.toNat ≤ 13 := by omega
    simp [h13]

theorem wellFormed_enableChannel (b : Build) (cc : BitVec 2) :
    WellFormed b (.enableChannel cc) = (channelLine cc).isSome := by
  revert cc; simp only [WellFormed]; decide

theorem wellFormed_disableChannel (b : Build) (cc : BitVec 2) :
    WellFormed b (.disableChannel cc) = (channelLine cc).isSome := by
  revert cc; simp only [WellFormed]; decide

theorem wellFormed_delay (b : Build) (tt : BitVec 2) :
    WellFormed b (.delay tt) = (delayKindOf tt).isSome := by
  revert tt; simp only [WellFormed]; decide

theorem wellFormed_gridWrite (b : Build) (r c : BitVec 5) (v : Bool) :
    WellFormed b (.gridWrite r c v) = inGrid b r.toNat c.toNat := rfl

/-! ### Everything exec can answer -/

/-- The instruction is a command. -/
def isCommand : Instr → Bool
  | .init _ _ => true
  | .setPixel _ _ _ => true
  | .updateFrame => true
  | _ => false

/-- The micro-operation decoder never gives a command (30 R52). -/
theorem decodeUop_isCommand (w : UopWord) (i : Instr) (h : decodeUop w = .ok i) : isCommand i = false := by
  unfold decodeUop at h
  refine (em (spells w 0xF0FE#16 0x1000#16 = true)).elim (fun e => ?_) (fun e => ?_)
  · rw [if_pos e] at h; cases h; rfl
  rw [if_neg e] at h
  clear e
  refine (em (spells w 0xFEF0#16 0x2000#16 = true)).elim (fun e => ?_) (fun e => ?_)
  · rw [if_pos e] at h; cases h; rfl
  rw [if_neg e] at h
  clear e
  refine (em (spells w 0xFFC0#16 0x3000#16 = true)).elim (fun e => ?_) (fun e => ?_)
  · rw [if_pos e] at h; cases h; rfl
  rw [if_neg e] at h
  clear e
  refine (em (spells w 0xFFC0#16 0x4000#16 = true)).elim (fun e => ?_) (fun e => ?_)
  · rw [if_pos e] at h; cases h; rfl
  rw [if_neg e] at h
  clear e
  refine (em (spells w 0xFFFC#16 0x5000#16 = true)).elim (fun e => ?_) (fun e => ?_)
  · rw [if_pos e] at h; cases h; rfl
  rw [if_neg e] at h
  clear e
  refine (em (spells w 0xFFFC#16 0x6000#16 = true)).elim (fun e => ?_) (fun e => ?_)
  · rw [if_pos e] at h; cases h; rfl
  rw [if_neg e] at h
  clear e
  refine (em (spells w 0xFFFC#16 0x7000#16 = true)).elim (fun e => ?_) (fun e => ?_)
  · rw [if_pos e] at h; cases h; rfl
  rw [if_neg e] at h
  clear e
  refine (em (spells w 0xF800#16 0x8000#16 = true)).elim (fun e => ?_) (fun e => ?_)
  · rw [if_pos e] at h; cases h; rfl
  rw [if_neg e] at h
  clear e
  refine (em (spells w 0xFFFF#16 0x9000#16 = true)).elim (fun e => ?_) (fun e => ?_)
  · rw [if_pos e] at h; cases h; rfl
  rw [if_neg e] at h
  clear e
  refine (em (spells w 0xFFFF#16 0xA000#16 = true)).elim (fun e => ?_) (fun e => ?_)
  · rw [if_pos e] at h; cases h; rfl
  rw [if_neg e] at h
  clear e
  refine (em (spells w 0xFFFF#16 0xB000#16 = true)).elim (fun e => ?_) (fun e => ?_)
  · rw [if_pos e] at h; cases h; rfl
  rw [if_neg e] at h
  clear e
  split at h <;> cases h

/-- Every next state of an instruction, as one operation on the state. -/
inductive ExecNext (i : Instr) (s : State) : State → Prop where
  | held (h : isCommand i = true) (hr : s.ready = false) : ExecNext i s s
  | commandFault (c : FaultCode) (h : isCommand i = true) (hr : s.ready = true) :
      ExecNext i s (State.raise c s.consume)
  | init (pulse : BitVec 32) (mode : SweepMode) (h : i = .init pulse mode) (hr : s.ready = true)
      (hi : s.initialized = false) :
      ExecNext i s (State.begin (initSeq s.build) (State.setConfig pulse mode s.consume))
  | setPixel (r c : BitVec 8) (v : Bool) (h : i = .setPixel r c v) (hr : s.ready = true)
      (hi : s.initialized = true) (hin : inGrid s.build r.toNat c.toNat = true) :
      ExecNext i s (State.begin (pixelSeq s.build v (r.toNat, c.toNat)) s.consume)
  | updateFrame (ds : List (Nat × Nat)) (h : i = .updateFrame) (hr : s.ready = true) (hi : s.initialized = true)
      (hfit : frameFits s.build s.frame = true) (hd : s.diff = some ds) :
      ExecNext i s (State.drawn s.sweepDraws (State.begin (s.sweepSeq ds) s.consume))
  | illegal (h : isCommand i = false) (hwf : WellFormed s.build i = false) :
      ExecNext i s (State.raise .illegalUop s)
  | pinWrite (k : BitVec 4) (v : Bool) (line : Line) (h : i = .pinWrite k v) (hk : k.toNat = line.val)
      (hp : s.build.present line = true) (hc : s.pinCfg[line.val] = true) :
      ExecNext i s (State.retire (State.pinWrite line v s))
  | ldSetOutput (d : Decoder) (p : BitVec 4) (h : i = .ldSetOutput d p) :
      ExecNext i s (State.expand (ldExpansion s.build d p) s)
  | edSetRowOutput (g : BitVec 2) (p : BitVec 4) (h : i = .edSetRowOutput g p) :
      ExecNext i s (State.expand (edRowExpansion g p) s)
  | edSetColOutput (g : BitVec 2) (p : BitVec 4) (h : i = .edSetColOutput g p) :
      ExecNext i s (State.expand (edColExpansion g p) s)
  | enableChannel (cc : BitVec 2) (k : BitVec 4) (h : i = .enableChannel cc) (hk : channelLine cc = some k) :
      ExecNext i s (State.expand [wordPinWrite k true] s)
  | disableChannel (cc : BitVec 2) (k : BitVec 4) (h : i = .disableChannel cc) (hk : channelLine cc = some k) :
      ExecNext i s (State.expand [wordPinWrite k false] s)
  | delay (tt : BitVec 2) (kind : DelayKind) (h : i = .delay tt) (hk : delayKindOf tt = some kind) :
      ExecNext i s (State.retire (State.waited kind s))
  | gridWrite (r c : BitVec 5) (v : Bool) (h : i = .gridWrite r c v)
      (hin : inGrid s.build r.toNat c.toNat = true) :
      ExecNext i s (State.retire (State.gridWrite r.toNat c.toNat v s))
  | pinConfig (h : i = .pinConfig) : ExecNext i s (State.retire (State.drawn 1 s.configureLines))
  | pinConfigFails (h : i = .pinConfig) :
      ExecNext i s (State.raise .pinCfg (State.drawn 15 (State.configureSome (s.draws + 1) s)))
  | gridClear (h : i = .gridClear) : ExecNext i s (State.retire s.clearGrid)
  | initDone (h : i = .initDone) : ExecNext i s (State.retire (State.setInitialized true s))

theorem exec_next (i : Instr) (s t : State) (h : exec i s = .next t) : ExecNext i s t := by
  cases i with
  | init p m =>
    rcases accept_cases false .reInit (startInit p m) s with ⟨hr, e⟩ | ⟨hr, hi, e⟩ | ⟨hr, hi, e⟩ <;>
      rw [show exec (.init p m) s = execInit p m s from rfl, execInit, e] at h <;> cases h
    · exact .held rfl hr
    · exact .init p m rfl hr hi
    · exact .commandFault _ rfl hr
  | setPixel r c v =>
    rcases accept_cases true .noInit (startPixel r c v) s with ⟨hr, e⟩ | ⟨hr, hi, e⟩ | ⟨hr, hi, e⟩ <;>
      rw [show exec (.setPixel r c v) s = execSetPixel r c v s from rfl, execSetPixel, e] at h
    · cases h; exact .held rfl hr
    · rcases startPixel_cases r c v s.consume with ⟨_, e⟩ | ⟨hin, e⟩ <;> rw [e] at h <;> cases h
      · exact .commandFault _ rfl hr
      · exact .setPixel r c v rfl hr hi hin
    · cases h; exact .commandFault _ rfl hr
  | updateFrame =>
    rcases accept_cases true .noInit startFrame s with ⟨hr, e⟩ | ⟨hr, hi, e⟩ | ⟨hr, hi, e⟩ <;>
      rw [show exec .updateFrame s = execUpdateFrame s from rfl, execUpdateFrame, e] at h
    · cases h; exact .held rfl hr
    · rcases startFrame_cases s.consume with ⟨_, e⟩ | ⟨_, _, e⟩ | ⟨ds, hfit, hd, e⟩ <;> rw [e] at h <;> cases h
      · exact .commandFault _ rfl hr
      · exact .updateFrame ds rfl hr hi hfit (by rw [← State.diff_consume]; exact hd)
    · cases h; exact .commandFault _ rfl hr
  | pinWrite k v =>
    rcases execPinWrite_cases k v s with ⟨hl, e⟩ | ⟨line, hl, hc, e⟩ | ⟨line, hl, hc, e⟩ <;>
      rw [show exec (.pinWrite k v) s = execPinWrite k v s from rfl, e] at h <;> cases h
    · exact .illegal rfl (by rw [wellFormed_pinWrite, hl]; rfl)
    · have := (lineOf_eq_some _ _ _).1 hl
      exact .pinWrite k v line rfl this.1 this.2 hc
  | ldSetOutput d p => cases h; exact .ldSetOutput d p rfl
  | edSetRowOutput g p => cases h; exact .edSetRowOutput g p rfl
  | edSetColOutput g p => cases h; exact .edSetColOutput g p rfl
  | enableChannel cc =>
    rcases driveChannel_cases cc true s with ⟨hk, e⟩ | ⟨k, hk, e⟩ <;>
      rw [show exec (.enableChannel cc) s = driveChannel cc true s from rfl, e] at h <;> cases h
    · exact .illegal rfl (by rw [wellFormed_enableChannel, hk]; rfl)
    · exact .enableChannel cc k rfl hk
  | disableChannel cc =>
    rcases driveChannel_cases cc false s with ⟨hk, e⟩ | ⟨k, hk, e⟩ <;>
      rw [show exec (.disableChannel cc) s = driveChannel cc false s from rfl, e] at h <;> cases h
    · exact .illegal rfl (by rw [wellFormed_disableChannel, hk]; rfl)
    · exact .disableChannel cc k rfl hk
  | delay tt =>
    rcases execDelay_cases tt s with ⟨hk, e⟩ | ⟨kind, hk, e⟩ <;>
      rw [show exec (.delay tt) s = execDelay tt s from rfl, e] at h <;> cases h
    · exact .illegal rfl (by rw [wellFormed_delay, hk]; rfl)
    · exact .delay tt kind rfl hk
  | gridWrite r c v =>
    rcases execGridWrite_cases r c v s with ⟨hk, e⟩ | ⟨hk, e⟩ <;>
      rw [show exec (.gridWrite r c v) s = execGridWrite r c v s from rfl, e] at h <;> cases h
    · exact .illegal rfl hk
    · exact .gridWrite r c v rfl hk
  | pinConfig =>
    rcases execPinConfig_cases s with e | e <;>
      rw [show exec .pinConfig s = execPinConfig s from rfl, e] at h <;> cases h
    · exact .pinConfig rfl
    · exact .pinConfigFails rfl
  | gridClear => cases h; exact .gridClear rfl
  | initDone => cases h; exact .initDone rfl

end Sys2Proof.Machine
end

