-- ==== Sys2Proof/Machine/Assembly.lean ====
section
/-!
DEFINITION. Machine/Assembly.lean: the assembly text of an instruction (30_encoding.md R61), numbers in decimal. The
frame operand of UPDATE_FRAME has no encoding; its text is the name the caller gives it.
-/

namespace Sys2Proof.Machine

def SweepMode.text : SweepMode → String
  | .rowMajor => "RowMajor"
  | .columnMajor => "ColumnMajor"
  | .random => "Random"
  | .diagonal => "Diagonal"

def Decoder.text : Decoder → String
  | .row => "row"
  | .col => "col"

/-- A kind of wait; the illegal TT = 3 has no name. -/
def delayText (tt : BitVec 2) : String :=
  match delayKindOf tt with
  | some .pulse => "PULSE"
  | some .recovery => "RECOVERY"
  | some .settle => "SETTLE"
  | none => "3"

def bitText (v : Bool) : String := if v then "1" else "0"

def numText {n : Nat} (x : BitVec n) : String := toString x.toNat

/-- The text of an instruction (30 R61). -/
def assembly (frame : String) : Instr → String
  | .init pulse mode => "INIT " ++ numText pulse ++ ", " ++ SweepMode.text mode
  | .setPixel row col val => "SET_PIXEL " ++ numText row ++ ", " ++ numText col ++ ", " ++ bitText val
  | .updateFrame => "UPDATE_FRAME " ++ frame
  | .pinWrite k v => "PIN_WRITE " ++ numText k ++ ", " ++ bitText v
  | .ldSetOutput d p => "LD_SET_OUTPUT " ++ Decoder.text d ++ ", " ++ numText p
  | .edSetRowOutput g p => "ED_SET_ROW_OUTPUT " ++ numText g ++ ", " ++ numText p
  | .edSetColOutput g p => "ED_SET_COL_OUTPUT " ++ numText g ++ ", " ++ numText p
  | .enableChannel cc => "ENABLE_CHANNEL " ++ numText cc
  | .disableChannel cc => "DISABLE_CHANNEL " ++ numText cc
  | .delay tt => "DELAY " ++ delayText tt
  | .gridWrite r c v => "GRID_WRITE " ++ numText r ++ ", " ++ numText c ++ ", " ++ bitText v
  | .pinConfig => "PIN_CONFIG"
  | .gridClear => "GRID_CLEAR"
  | .initDone => "INIT_DONE"

end Sys2Proof.Machine
end

