-- ==== Sys2Proof/Tests/Slice0.lean ====
section
/-!
SUPPORT. Tests/Slice0.lean: the model's own tests. Expected values come from 95_test_vectors.md (V.., S.., Program B) or
from the examples of the rules named; and for every obligation with hypotheses a witness that meets them.
-/

namespace Sys2Proof.Tests

open Sys2Proof Sys2Proof.Machine

/-! ### A small machine: the build of 95 Program B, GPIO numbers 100 + k -/

def smallBuild : Build where
  height := 2
  width := 9
  rowA3 := false
  colA3 := true
  trueIsSet := true
  startupClear := false
  pinInv := (Vector.replicate 14 false).set 13 true
  lineId := Vector.ofFn fun k : Line => if k = 3 then none else some (100 + k.val)
  recoveryUs := 40
  settleUs := 70

/-- The default build of 95, with closed numbers for the OPEN parameters. -/
def fullBuild : Build := { smallBuild with
  height := 13, width := 28, startupClear := true, pinInv := Vector.replicate 14 false }

/-- The small machine after INIT 3000, ColumnMajor (95 Program B). -/
def ready : State := { State.resetOf smallBuild with
  pinCfg := Vector.ofFn smallBuild.present
  pinOut := ((Vector.replicate 14 none).set 12 (some true)).set 13 (some false)
  cfgPulseUs := 3000#32
  cfgSweep := .columnMajor
  status := 0x2#32
  grid := (List.range 18).map fun a => (a, false)
  trace := [.level 12 (some 112) true true, .level 13 (some 113) false true, .wait .settle 70 75] }

/-- The same, performing a queue of words. -/
def busyWith (ws : List UopWord) : State := { ready with status := 0x3#32, seq := ws }

/-- In the middle of a pulse: E2 asserted, the pulse wait to come. -/
def pulsing : State := { busyWith [0x7000#16, 0x6002#16, 0x7001#16] with
  pinOut := ready.pinOut.set 13 (some true)
  trace := ready.trace ++ [.level 13 (some 113) true false] }

/-- Stopped by F_RANGE (95 V34). -/
def stopped : State := { ready with status := 0x46#32, trace := ready.trace ++ [.fault .range] }

/-- Reset, but with a command on the port. -/
def presented (w : CmdWord) : State := { State.resetOf smallBuild with cmd := some w }

/-- After INIT, with a command on the port. -/
def asked (w : CmdWord) : State := { ready with cmd := some w }

def nextOf : Host.Outcome State Fault Refusal → Option State
  | .next s => some s
  | .fault _ => none
  | .refused _ => none

def refusalOf : Host.Outcome State Fault Refusal → Option Refusal
  | .next _ => none
  | .fault _ => none
  | .refused r => some r

/-! ### WellFormed: one ill-formed term for each check of 30 R59 -/

theorem test_wf_line_above_13 : WellFormed fullBuild (.pinWrite 14#4 false) = false := by decide
theorem test_wf_absent_row_a3 : WellFormed fullBuild (.pinWrite 3#4 true) = false := by decide
theorem test_wf_absent_col_a3 : WellFormed { fullBuild with colA3 := false } (.pinWrite 7#4 true) = false := by
  decide
theorem test_wf_present_col_a3 : WellFormed fullBuild (.pinWrite 7#4 true) = true := by decide
theorem test_wf_enable_channel_0 : WellFormed fullBuild (.enableChannel 0#2) = false := by decide
theorem test_wf_enable_channel_3 : WellFormed fullBuild (.enableChannel 3#2) = false := by decide
theorem test_wf_disable_channel_0 : WellFormed fullBuild (.disableChannel 0#2) = false := by decide
theorem test_wf_disable_channel_3 : WellFormed fullBuild (.disableChannel 3#2) = false := by decide
theorem test_wf_delay_3 : WellFormed fullBuild (.delay 3#2) = false := by decide
theorem test_wf_grid_row_13 : WellFormed fullBuild (.gridWrite 13#5 27#5 true) = false := by decide
theorem test_wf_grid_col_28 : WellFormed fullBuild (.gridWrite 12#5 28#5 true) = false := by decide
theorem test_wf_grid_last_cell : WellFormed fullBuild (.gridWrite 12#5 27#5 true) = true := by decide

/-! ### Decoding: words written out from 30 R53 and R57 -/

-- 95 V32
theorem test_decode_init : decodeCmd 0x000009C400000021#64 = .ok (.init 2500#32 .random) := by decide
-- 95 V8: row 5, column 10, value 1
theorem test_decode_set_pixel : decodeCmd 0x00000000000A0542#64 = .ok (.setPixel 5#8 10#8 true) := by decide
-- 95 V26
theorem test_decode_update_frame : decodeCmd 0x0000000000000003#64 = .ok .updateFrame := by decide
-- 95 V1
theorem test_decode_pin_write : decodeUop 0b0001110100000001#16 = .ok (.pinWrite 13#4 true) := by decide
-- 95 2.2
theorem test_decode_ld_set_output : decodeUop 0b0010000100001111#16 = .ok (.ldSetOutput .col 15#4) := by decide
-- 95 V7b, V7d
theorem test_decode_ed_set_row_output : decodeUop 0b0011000000011110#16 = .ok (.edSetRowOutput 1#2 14#4) := by decide
theorem test_decode_ed_set_col_output : decodeUop 0b0100000000111111#16 = .ok (.edSetColOutput 3#2 15#4) := by decide
-- 30 R57, fields CC and TT
theorem test_decode_enable_channel : decodeUop 0b0101000000000010#16 = .ok (.enableChannel 2#2) := by decide
theorem test_decode_disable_channel : decodeUop 0b0110000000000001#16 = .ok (.disableChannel 1#2) := by decide
theorem test_decode_delay : decodeUop 0b0111000000000001#16 = .ok (.delay 1#2) := by decide
-- 95 V20
theorem test_decode_grid_write : decodeUop 0b1000000101010101#16 = .ok (.gridWrite 5#5 10#5 true) := by decide
-- 44 R109, R110, R111
theorem test_decode_pin_config : decodeUop 0b1001000000000000#16 = .ok .pinConfig := by decide
theorem test_decode_grid_clear : decodeUop 0b1010000000000000#16 = .ok .gridClear := by decide
theorem test_decode_init_done : decodeUop 0b1011000000000000#16 = .ok .initDone := by decide
-- 95 V33, V40, V41, V42, V43: rejected by name
theorem test_reject_commands :
    decodeCmd 0x000009C400000101#64 = .error .reservedBits ∧ decodeCmd 0x0#64 = .error .reservedOp ∧
    decodeCmd 0x4#64 = .error .reservedOp ∧ decodeCmd 0xC2#64 = .error .reservedBits ∧
    decodeCmd 0x13#64 = .error .reservedBits := by decide
-- 30 R59: classes 0 and 0xC, and a bit that must be 0
theorem test_reject_uops :
    decodeUop 0x0000#16 = .error .reservedOp ∧ decodeUop 0xC000#16 = .error .reservedOp ∧
    decodeUop 0x3041#16 = .error .reservedBits ∧ decodeUop 0x1003#16 = .error .reservedBits := by decide
-- 30 R53, R57: the encoder gives the same words back
theorem test_encode :
    encode (.init 2500#32 .random) = .cmd 0x000009C400000021#64 ∧
    encode (.setPixel 5#8 10#8 true) = .cmd 0x00000000000A0542#64 ∧
    encode (.pinWrite 13#4 true) = .uop 0x1D01#16 ∧ encode (.gridWrite 5#5 10#5 true) = .uop 0x8155#16 := by decide
-- 30 R61
theorem test_assembly :
    assembly "F" (.init 2500#32 .rowMajor) = "INIT 2500, RowMajor" ∧
    assembly "F" (.ldSetOutput .col 9#4) = "LD_SET_OUTPUT col, 9" ∧ assembly "F" .updateFrame = "UPDATE_FRAME F" := by
  decide

/-! ### Addressing and orders -/

-- 95 S2, S3; with the other polarity V15
theorem test_positions :
    position fullBuild 6 true = 7 ∧ position fullBuild 6 false = 15 ∧ position fullBuild 0 true = 1 ∧
    position fullBuild 0 false = 9 ∧ position { fullBuild with trueIsSet := false } 0 true = 9 := by decide
-- 95 V12: group and position of row 12 and column 27
theorem test_last_cell : groupOf 12 = 1 ∧ offsetOf 12 = 5 ∧ groupOf 27 = 3 ∧ offsetOf 27 = 6 := by decide
-- 95 V22: ColumnMajor is stable
theorem test_column_major : byColumn [(0, 5), (1, 2), (2, 0), (3, 2)] = [(2, 0), (1, 2), (3, 2), (0, 5)] := by decide
-- 95 Program B: the frame 0x302 and its diff with the cleared grid
theorem test_frame_of_port : ({ ready with frame := frameOfPort smallBuild 0x302 }).diff = some [(0, 1), (0, 8), (1, 0)] := by
  decide
-- 20 R41: grid_q of one cell (1, 0) is bit 9
theorem test_grid_q : (State.gridWrite 1 0 true ready).gridQ = some 0x200 := by decide

/-! ### One step of each instruction -/

-- 95 V29, V30: the operands, BUSY, and the set-up words of 44 R108
theorem test_init : (nextOf (exec (.init 3000#32 .columnMajor) (State.resetOf smallBuild))).map
    (fun t => (t.cfgPulseUs, t.cfgSweep, t.status, t.seq)) =
    some (3000#32, .columnMajor, 0x1#32, [0x9000#16, 0xA000#16, 0x5001#16, 0x6002#16, 0x7002#16, 0xB000#16]) := by decide
-- 95 V39
theorem test_init_again : (nextOf (step (asked 0x000009C400000001#64))).map (fun t => (t.status, t.cfgPulseUs, t.cmd)) =
    some (0x36#32, 3000#32, none) := by decide
-- 95 Program B, SET_PIXEL 1, 0, 0: row position 10, column position 9
theorem test_set_pixel : (nextOf (step (asked 0x0000000000000102#64))).map (fun t => (t.status, t.seq)) =
    some (0x3#32, [0x300A#16, 0x4009#16, 0x5002#16, 0x7000#16, 0x6002#16, 0x7001#16, 0x8040#16]) := by decide
-- 95 V34, for this build: row 2 is outside
theorem test_set_pixel_range : (nextOf (step (asked 0x0000000000000242#64))).map (fun t => (t.status, t.seq)) =
    some (0x46#32, []) := by decide
-- 95 Program B: the first pixel of the ColumnMajor sweep is (1, 0)
theorem test_update_frame :
    (nextOf (step { asked 0x3#64 with frame := frameOfPort smallBuild 0x302 })).map
      (fun t => (t.status, t.seq.length, t.seq.take 2, t.seq[6]?)) =
    some (0x3#32, 21, [0x3002#16, 0x4001#16], some 0x8041#16) := by decide
-- 95 V27
theorem test_update_frame_dim : (nextOf (step { asked 0x3#64 with frame := [[]] })).map (fun t => t.status) =
    some 0x56#32 := by decide
-- 95 V2: an inverted line
theorem test_pin_write : (nextOf (step (busyWith [0x1D01#16, 0x7000#16]))).map
    (fun t => (t.pinOut[13], t.trace.getLast?, t.seq)) =
    some (some true, some (.level 13 (some 113) true false), [0x7000#16]) := by decide
-- 95 V4: the absent ROW_A3
theorem test_pin_write_absent : (nextOf (step (busyWith [0x1301#16]))).map
    (fun t => (t.status, t.trace.getLast?, t.pinOut)) = some (0x76#32, some (.fault .illegalUop), ready.pinOut) := by decide
-- 95 2.2, position 9 on the column decoder: A2 A1 A0 A3 = 0 0 1 0
theorem test_ld_set_output : (nextOf (step (busyWith [0x2109#16]))).map (fun t => t.seq) =
    some [0x1600#16, 0x1500#16, 0x1401#16, 0x1700#16] := by decide
-- 95 2.2, position 10 on the 3-bit row decoder: A2 A1 A0 = 0 1 0
theorem test_ld_set_output_alias : (nextOf (step (busyWith [0x200A#16]))).map (fun t => t.seq) =
    some [0x1200#16, 0x1101#16, 0x1000#16] := by decide
-- 95 V7c
theorem test_ed_set_row_output : (nextOf (step (busyWith [0x3025#16, 0xB000#16]))).map (fun t => t.seq) =
    some [0x1800#16, 0x1901#16, 0x2005#16, 0xB000#16] := by decide
-- 95 V7e
theorem test_ed_set_col_output : (nextOf (step (busyWith [0x4014#16]))).map (fun t => t.seq) =
    some [0x1A01#16, 0x1B00#16, 0x2104#16] := by decide
-- 41 R76: channel 2 is line 13
theorem test_enable_channel : (nextOf (step (busyWith [0x5002#16]))).map (fun t => t.seq) = some [0x1D01#16] := by decide
-- 41 R77: channel 1 is line 12
theorem test_disable_channel : (nextOf (step (busyWith [0x6001#16]))).map (fun t => t.seq) = some [0x1C00#16] := by decide
-- 42 R80: the minimum of PULSE, whatever the length is
theorem test_delay : (nextOf (step (busyWith [0x7000#16]))).map
    (fun t => (t.trace.getLast?.map fun e => match e with | .wait k m _ => some (k, m) | _ => none, t.status)) =
    some (some (some (.pulse, 3000)), 0x2#32) := by decide
-- 42 R80: TT = 3
theorem test_delay_3 : (nextOf (step (busyWith [0x7003#16]))).map (fun t => t.status) = some 0x76#32 := by decide
-- 43 R94: the last cell of the small grid, and no event
theorem test_grid_write : (nextOf (step (busyWith [0x8051#16]))).map
    (fun t => (t.gridRead 1 8, t.gridRead 1 7, t.trace.length, t.status)) = some (some true, some false, 3, 0x2#32) := by decide
-- 30 R59: row 2 is outside
theorem test_grid_write_outside : (nextOf (step (busyWith [0x8081#16]))).map (fun t => (t.status, t.grid)) =
    some (0x76#32, ready.grid) := by decide
-- 44 R109: on success every present line is configured, and 13 events are emitted
theorem test_pin_config : (ready.configureLines.pinCfg[3], ready.configureLines.pinCfg[13],
    ready.configureLines.trace.length) = (false, true, 16) := by decide
-- 44 R110, after reset
theorem test_grid_clear : (nextOf (exec .gridClear (State.resetOf smallBuild))).map
    (fun t => (t.gridRead 0 0, t.gridRead 1 8, t.gridRead 2 0)) = some (some false, some false, none) := by decide
-- 44 R111: with SEQ empty after it STATUS = 0x2
theorem test_init_done : (nextOf (step { State.resetOf smallBuild with status := 0x1#32, seq := [0xB000#16] })).map
    (fun t => t.status) = some 0x2#32 := by decide

-- 44 R110, 43 R101: a placed micro-operation word and a placed command word run in the very next step
theorem test_fetch_word :
    decodeTableWord 16 0xA000 = some .gridClear ∧ decodeTableWord 64 0x3 = some .updateFrame ∧
    (nextOf (step ((State.resetOf smallBuild).withFetchWord 16 0xA000))).map (fun t => t.gridRead 1 8) = some (some false) ∧
    (nextOf (step ((State.resetOf smallBuild).withFetchWord 64 0x3))).map (fun t => t.status) = some 0x24#32 := by decide

/-! ### Faults, the hold, reset -/

-- 95 V37, V44
theorem test_before_init :
    (nextOf (step (presented 0x42#64))).map (fun t => t.status) = some 0x24#32 ∧
    (nextOf (step (presented 0xDC2#64))).map (fun t => t.status) = some 0x64#32 := by decide
-- 95 V47: a command presented while BUSY = 1 stays on the port
theorem test_held : (nextOf (step { busyWith [0x6001#16] with cmd := some 0x42#64 })).map (fun t => t.cmd) =
    some (some 0x42#64) := by decide
-- 40 R63: a PIN_WRITE to an unconfigured line is refused
theorem test_unconfigured : refusalOf (step { State.resetOf smallBuild with seq := [0x1D01#16] }) =
    some .unconfiguredLine := by decide
-- 20 R39: a read of a cell without a value is refused
theorem test_unwritten : refusalOf (step { asked 0x3#64 with grid := [] }) = some .unwrittenCell := by decide
-- 60 R120, 70 R129: nothing moves a stopped core, reset frees it
theorem test_stopped : (nextOf (step { stopped with script := [.core], cmd := some 0x42#64 })).map (fun t => (t.status, t.cmd)) =
    some (0x46#32, some 0x42#64) ∧
    (nextOf (step { stopped with script := [.host .reset] })).map (fun t => (t.status, t.trace.length, t.cmdReady)) =
    some (0x0#32, 0, true) := by decide
-- 41 R79: the addressed tuple of Program B's first pulse, once its lines are written
theorem test_addressed : ({ ready with
    pinOut := #v[some false, some true, some false, none, some true, some false, some false, some true,
      some false, some false, some false, some false, some true, some true] }).addressed =
    some ⟨0#2, 2#4, 0#2, 1#4, true⟩ := by decide
-- 70 R131: the small machine after INIT is at a successful end, also with a read to come; not with a command to come
theorem test_ends : ready.EndsSuccessfully ∧ ({ ready with script := [.host .read] }).EndsSuccessfully ∧
    ¬ ({ ready with script := [.host .read, .host (.driveCmd (some 0x42#64))] }).EndsSuccessfully := by
  unfold State.EndsSuccessfully; decide

/-! ### Witnesses: for each obligation, a state and operands that meet its hypotheses, clause by clause -/

theorem test_small_legal : smallBuild.Legal := by decide
theorem test_full_legal : fullBuild.Legal := by decide

/-- A queue of legal words on the small machine, with the trace and the latches that belong to it, meets the
invariant. -/
theorem running_inv (s : State) (hb : s.build = smallBuild) (hs : s.status = 0x2#32 ∧ s.seq = [] ∨ s.status = 0x3#32 ∧ s.seq ≠ [])
    (hc : s.pinCfg = ready.pinCfg) (ho : s.pinOut[3] = none) (hg : s.grid = ready.grid)
    (hw : s.seq.all (plainWord smallBuild) = true) (hp : s.PulseDisciplined) : s.Inv := by
  have hf : s.faulted = false := by rcases hs with ⟨h, _⟩ | ⟨h, _⟩ <;> simp [State.faulted, h]
  have hi : s.initialized = true := by rcases hs with ⟨h, _⟩ | ⟨h, _⟩ <;> simp [State.initialized, h]
  refine ⟨hb ▸ test_small_legal, by rw [hg]; unfold Memory.wf; decide, by rw [hg, hb]; decide, ?_, fun _ => ?_,
    fun h => ?_, ?_, ?_, .running hf hi ?_ ?_ (by rw [hb]; exact List.all_eq_true.1 hw), hp⟩
  · rcases hs with ⟨h, _⟩ | ⟨h, _⟩ <;> rw [h] <;> decide
  · rcases hs with ⟨h, _⟩ | ⟨h, _⟩ <;> simp [State.faultCode, h]
  · rw [hf] at h; cases h
  · rcases hs with ⟨h, h'⟩ | ⟨h, h'⟩ <;> simp [State.busy, h, h']
  · rw [hb, hc]
    intro k hk
    have h : ∀ k : Line, smallBuild.present k = false → k = 3 ∧ ready.pinCfg[k.val] = false := by decide
    obtain ⟨rfl, h3⟩ := h k hk
    exact ⟨h3, ho⟩
  · rw [State.Configured, hb, hc]; decide
  · intro r c hin
    rw [State.gridRead_congr ready s hb hg]
    rw [hb] at hin
    have h : ∀ r < 2, ∀ c < 9, (ready.gridRead r c).isSome = true := by decide
    simp only [inGrid, Bool.and_eq_true, decide_eq_true_eq] at hin
    exact h r hin.1 c hin.2

theorem test_witness_ready_inv : ready.Inv := by
  refine running_inv _ rfl (.inl ⟨rfl, rfl⟩) rfl (by decide) rfl (by decide) ⟨?_, .off, ?_, ?_⟩ <;> decide
theorem test_witness_pulsing_inv : pulsing.Inv := by
  refine running_inv _ rfl (.inr ⟨rfl, by decide⟩) rfl (by decide) rfl (by decide) ⟨?_, .asserted, ?_, ?_⟩ <;> decide
/-- About to change an address line. -/
def addressing : State := { busyWith [0x1801#16] with pinOut := ready.pinOut.set 8 (some false) }
theorem test_witness_addressing_inv : addressing.Inv := by
  refine running_inv _ rfl (.inr ⟨rfl, by decide⟩) rfl (by decide) rfl (by decide) ⟨?_, .off, ?_, ?_⟩ <;> decide
/-- A reset state on whose port a command arrives. -/
theorem test_witness_reset_inv : (State.resetOf smallBuild).Inv := by
  have hf : (State.resetOf smallBuild).faulted = false := by decide
  exact ⟨test_small_legal, List.Pairwise.nil, fun p hp => (nomatch hp), by decide, fun _ => by decide,
    fun h => (nomatch hf.symm.trans h), by decide, by decide, .fresh hf (by decide) ⟨by decide, rfl, rfl⟩ (.inl rfl),
    ⟨by decide, .off, by decide, by decide⟩⟩

-- EncodeOfDecode, DecodeOfEncode
theorem test_witness_encode_of_decode :
    decode (.uop 0x8155#16) = .ok (.gridWrite 5#5 10#5 true) ∧ encode (.gridWrite 5#5 10#5 true) = .uop 0x8155#16 := by
  decide
-- LegalCommandWords: the three shapes
theorem test_witness_legal_commands :
    decodeCmd 0xFFFFFFFF00000031#64 = .ok (.init 0xFFFFFFFF#32 .diagonal) ∧
    decodeCmd 0x0000000000FFFF42#64 = .ok (.setPixel 255#8 255#8 true) ∧ decodeCmd 0x3#64 = .ok .updateFrame := by decide
-- IllegalMicroOperationWords: a word of each class, legal and illegal
theorem test_witness_illegal_uops :
    (busyWith [0x7003#16]).faulted = false ∧ (busyWith [0x7003#16]).seq.head? = some 0x7003#16 ∧
    nextOf (coreTurn (busyWith [0x7003#16])) = some (State.raise .illegalUop (busyWith [0x7003#16])) ∧
    ([0x0000#16, 0xC000#16, 0x1E00#16, 0x1301#16, 0x2010#16, 0x3040#16, 0x5000#16, 0x6003#16, 0x7004#16, 0x8800#16,
        0x8080#16, 0x8012#16, 0x9001#16].all
      fun w => (nextOf (coreTurn (busyWith [w]))).map (fun t => t.faultCode) == some 7#4) = true ∧
    ([0x1D01#16, 0x200F#16, 0x303F#16, 0x403F#16, 0x5001#16, 0x6002#16, 0x7002#16, 0x8051#16, 0xA000#16, 0xB000#16].all
      fun w => (nextOf (coreTurn (busyWith [w]))).map (fun t => t.faulted) == some false) = true := by decide
-- GroupsAndOffsetsFit, PixelSequenceHasSevenOperations, PixelSequenceActs: the last cell of the full build
theorem test_witness_last_cell :
    fullBuild.Legal ∧ 12 < fullBuild.height ∧ 27 < fullBuild.width ∧ fullBuild.height = 13 ∧ fullBuild.width = 28 := by
  decide
theorem test_witness_pixel_acts :
    (primitives fullBuild (pixelSeq fullBuild false (12, 27))).filterMap wordAct? =
      [.write 8 true, .write 9 false, .write 2 true, .write 1 true, .write 0 false, .write 10 true, .write 11 true,
       .write 6 true, .write 5 true, .write 4 true, .write 7 false, .write 13 true, .wait .pulse, .write 13 false,
       .wait .recovery] := by decide
-- OutputPositionRanges: the last offset, both values
theorem test_witness_positions : 6 ≤ 6 ∧ valueIsReset smallBuild true = false ∧ valueIsReset smallBuild false = true := by
  decide
-- PhysicalLevelOfEveryLine: each clause
theorem test_witness_levels :
    ((State.resetOf smallBuild).pinCfg[13] = false ∧ (State.resetOf smallBuild).phys 0 13 = .z) ∧
    (ready.pinCfg[0] = true ∧ ready.pinOut[0] = none ∧ ready.phys 0 0 ≠ .z) ∧
    (ready.pinCfg[13] = true ∧ ready.pinOut[13] = some false ∧ ready.phys 0 13 = .driven true) := by decide
-- GpioLinesCarryTheirLine: each clause
theorem test_witness_gpio :
    (ready.build.present 13 = true ∧ ready.build.lineId[13] = some 113 ∧ ready.gpio 0 113 = .driven true) ∧
    (∀ k : Line, ready.build.lineId[k.val] ≠ some 103) ∧ ready.gpio 0 103 = .z := by decide
-- PinWriteLatchesAndEmits: each clause; the line 7 of a build without COL_A3
theorem test_witness_pin_write :
    (ready.build.present 13 = true ∧ ready.pinCfg[13] = true) ∧
    ((State.resetOf smallBuild).build.present 13 = true ∧ (State.resetOf smallBuild).pinCfg[13] = false) ∧
    13 < (14#4).toNat ∧ ready.build.rowA3 = false ∧
    (State.resetOf { smallBuild with colA3 := false }).build.colA3 = false := by decide
-- LdSetOutputIsSeenOnTheLines: both decoders; position 10 reads 2 on the 3-bit one (95 2.2)
theorem test_witness_ld_view :
    (busyWith [wordLdSetOutput .row 10#4, 0x7000#16]).script = [] ∧
    (busyWith [wordLdSetOutput .row 10#4, 0x7000#16]).faulted = false ∧
    (∀ k : Line, smallBuild.present k = true → ready.pinCfg[k.val] = true) ∧
    (nextOf (core.run 4 (busyWith [wordLdSetOutput .row 10#4, 0x7000#16]))).map (fun t => (t.ldView .row, t.seq)) =
      some (some 2#4, [0x7000#16]) ∧
    (nextOf (core.run 5 (busyWith [wordLdSetOutput .col 10#4]))).map (fun t => (t.ldView .col, t.seq)) =
      some (some 10#4, []) := by decide
-- PixelSequenceAddressesItsCell: the last cell of the small grid (95 Program B: group 1, position 2 for a set of column 8)
theorem test_witness_addressing_pixel :
    smallBuild.Legal ∧ (busyWith (pixelSeq smallBuild true (1, 8))).script = [] ∧
    (busyWith (pixelSeq smallBuild true (1, 8))).faulted = false ∧
    (∀ k : Line, smallBuild.present k = true → ready.pinCfg[k.val] = true) ∧ 1 < smallBuild.height ∧
    8 < smallBuild.width ∧ (busyWith (pixelSeq smallBuild true (1, 8))).pinOut[12] = some true ∧
    (nextOf (core.run 16 (busyWith (pixelSeq smallBuild true (1, 8))))).map (fun t => (t.addressed, t.seq.head?)) =
      some (some ⟨0#2, 2#4, 1#2, 2#4, true⟩, some 0x1D01#16) := by decide
-- EnableChannelAsserts, DisableChannelDeasserts, DelayWaitsAtLeastItsMinimum: the illegal fields
theorem test_witness_illegal_fields :
    (∀ cc ∈ [0#2, 3#2], (nextOf (exec (.enableChannel cc) ready)).map (fun t => t.faultCode) = some 7#4) ∧
    (∀ cc ∈ [0#2, 3#2], (nextOf (exec (.disableChannel cc) ready)).map (fun t => t.faultCode) = some 7#4) ∧
    (nextOf (exec (.delay 3#2) ready)).map (fun t => t.faultCode) = some 7#4 := by decide
-- DelayWaitsAtLeastItsMinimum: each kind and its minimum
theorem test_witness_delay :
    ready.minimumUs .pulse = 3000 ∧ ready.minimumUs .recovery = 40 ∧ ready.minimumUs .settle = 70 := by decide
-- GridWriteSetsOneCell: the last cell, and the first row and column outside
theorem test_witness_grid_write :
    ((1#5).toNat < ready.build.height ∧ (8#5).toNat < ready.build.width) ∧ ready.build.height ≤ (2#5).toNat ∧
    ready.build.width ≤ (9#5).toNat := by decide
-- DiffIsRowMajorListOfDifferences
theorem test_witness_grid_complete : ready.GridComplete := by
  intro r c hin
  have h : ∀ r < 2, ∀ c < 9, (ready.gridRead r c).isSome = true := by decide
  simp only [inGrid, Bool.and_eq_true, decide_eq_true_eq] at hin
  exact h r hin.1 c hin.2
-- SweepOrders, RandomSweepIsAPermutation: each mode
theorem test_witness_modes :
    ready.cfgSweep = .columnMajor ∧ (State.resetOf smallBuild).cfgSweep = .rowMajor ∧
    ({ ready with cfgSweep := .random }).cfgSweep = .random ∧ ({ ready with cfgSweep := .diagonal }).cfgSweep = .diagonal := by
  decide
-- InitIsAccepted, InitCompletes (its two clauses: a build without and one with the startup clear)
theorem test_witness_init :
    (State.resetOf smallBuild).Inv ∧ (State.resetOf smallBuild).script = [] ∧ (State.resetOf smallBuild).seq = [] ∧
    (State.resetOf smallBuild).busy = false ∧ (State.resetOf smallBuild).faulted = false ∧
    (State.resetOf smallBuild).initialized = false := ⟨test_witness_reset_inv, by decide⟩
/-- The small machine with the startup clear. -/
def clearing : State := State.resetOf { smallBuild with startupClear := true }
theorem test_witness_init_clear :
    clearing.Inv ∧ clearing.script = [] ∧ clearing.seq = [] ∧ clearing.faulted = false ∧ clearing.initialized = false ∧
    clearing.build.startupClear = true ∧ (State.resetOf smallBuild).build.startupClear = false := by
  refine ⟨?_, by decide⟩
  have hf : clearing.faulted = false := by decide
  exact ⟨by decide, List.Pairwise.nil, fun p hp => (nomatch hp), by decide, fun _ => by decide,
    fun h => (nomatch hf.symm.trans h), by decide, by decide, .fresh hf (by decide) ⟨by decide, rfl, rfl⟩ (.inl rfl),
    ⟨by decide, .off, by decide, by decide⟩⟩
-- SetPixelIsAccepted, SetPixelCompletes: the last cell
theorem test_witness_set_pixel :
    ready.Inv ∧ ready.script = [] ∧ ready.seq = [] ∧ ready.busy = false ∧ ready.faulted = false ∧
    ready.initialized = true ∧ (1#8).toNat < ready.build.height ∧ (8#8).toNat < ready.build.width :=
  ⟨test_witness_ready_inv, by decide⟩
-- UpdateFrameIsAccepted, UpdateFrameCompletes
theorem test_witness_update_frame :
    ready.Inv ∧ ready.GridComplete ∧ ready.script = [] ∧ ready.seq = [] ∧ ready.busy = false ∧ ready.faulted = false ∧
    ready.initialized = true ∧ ready.frame.length = ready.build.height ∧
    (ready.frame.all fun row => row.length == ready.build.width) = true :=
  ⟨test_witness_ready_inv, test_witness_grid_complete, by decide⟩
-- EqualFrameDoesNothing: the cleared grid and the frame of zeros
theorem test_witness_equal_frame :
    ready.busy = false ∧ ready.faulted = false ∧ ready.initialized = true ∧ ready.frame.length = ready.build.height ∧
    (ready.frame.all fun row => row.length == ready.build.width) = true ∧ ready.build.height = 2 ∧ ready.build.width = 9 ∧
    ∀ r < 2, ∀ c < 9, ready.gridRead r c = some (frameBit ready.frame r c) := by decide
-- RunningCommandEndsWithTheNextOneHeld: in the middle of a pulse, with a command on the port
theorem test_witness_running : pulsing.Inv ∧ pulsing.script = [] ∧ pulsing.faulted = false ∧
    (nextOf (core.run 4 { pulsing with cmd := some 0x42#64 })).map (fun t => (t.cmd, t.seq, t.busy, t.faulted)) =
      some (some 0x42#64, [], false, false) := ⟨test_witness_pulsing_inv, by decide⟩
-- AcceptanceChecksInOrder: performing while a command is held; busy and faulted; then each check (95 V34 to V45)
theorem test_witness_acceptance :
    ((nextOf (coreTurn { busyWith [0x1D01#16] with cmd := some 0x42#64 })).map (fun t => (t.cmd, t.pinOut[13])) =
      some (some 0x42#64, some true)) ∧
    ({ asked 0x42#64 with status := 0x3#32 }).busy = true ∧ ({ stopped with cmd := some 0x42#64 }).faulted = true ∧
    (asked 0x4#64).seq = [] ∧ decodeCmd 0x4#64 = .error .reservedOp ∧
    decodeCmd 0x1#64 = .ok (.init 0#32 .rowMajor) ∧ (asked 0x1#64).initialized = true ∧
    decodeCmd 0x242#64 = .ok (.setPixel 2#8 0#8 true) ∧ (asked 0x242#64).build.height ≤ (2#8).toNat ∧
    decodeCmd 0x90042#64 = .ok (.setPixel 0#8 9#8 true) ∧ (asked 0x90042#64).build.width ≤ (9#8).toNat ∧
    (presented 0x42#64).initialized = false ∧ ({ asked 0x3#64 with frame := [[]] }).frame.length ≠ smallBuild.height ∧
    (∃ row ∈ [[true], [false]], row.length ≠ smallBuild.width) := by decide
-- CommandsAreHeldWhileNotReady
theorem test_witness_held :
    decodeCmd 0x42#64 = .ok (.setPixel 0#8 0#8 true) ∧ (busyWith [0x7000#16]).busy = true ∧ stopped.faulted = true := by
  decide
-- RaiseRecordsTheFirstFault: a first and a second fault
theorem test_witness_raise :
    (State.raise .range ready).status = 0x46#32 ∧ (State.raise .noInit stopped).status = 0x46#32 := by decide
-- FaultsAreSticky: a turn of the host, a turn of the core, and reset
theorem test_witness_sticky :
    stopped.faulted = true ∧ nextOf (step { stopped with script := [.host .read] }) = some stopped ∧
    nextOf (step { stopped with script := [.core] }) = some stopped ∧
    (nextOf (step { stopped with script := [.host .reset] })).isSome = true := by decide
-- ResetAbandonsEverything, in the middle of a pulse (95 V49)
theorem test_witness_reset : ({ pulsing with script := [.host .reset, .core] }).script = .host .reset :: [.core] := by decide
-- IllegalBuildsAreRefused: each clause at its boundary
theorem test_witness_illegal_builds :
    ({ smallBuild with height := 0 }).height = 0 ∧ 28 < ({ smallBuild with height := 29 }).height ∧
    ({ smallBuild with width := 0 }).width = 0 ∧ 28 < ({ smallBuild with width := 29 }).width ∧
    refusalOf (construct { smallBuild with height := 29 }) = some .illegalBuild ∧
    (nextOf (construct { smallBuild with height := 28, width := 28 })).isSome = true ∧
    refusalOf (construct { smallBuild with rowA3 := true }) = some .illegalBuild ∧
    refusalOf (construct { smallBuild with colA3 := false }) = some .illegalBuild ∧
    refusalOf (construct { smallBuild with lineId := smallBuild.lineId.set 0 (some 113) }) = some .illegalBuild := by
  decide
-- StepRunsTheDecodedInstruction: a queued word and a command, with and without a script
theorem test_witness_step :
    decodeUop 0x1D01#16 = .ok (.pinWrite 13#4 true) ∧
    (busyWith [0x1D01#16]).faulted = false ∧
    nextOf (step (busyWith [0x1D01#16])) = nextOf (exec (.pinWrite 13#4 true) (busyWith [0x1D01#16])) ∧
    (asked 0x42#64).busy = false ∧ (asked 0x42#64).seq = [] ∧ decodeCmd 0x42#64 = .ok (.setPixel 0#8 0#8 true) ∧
    nextOf (step { asked 0x42#64 with script := [.core] }) = nextOf (exec (.setPixel 0#8 0#8 true) (asked 0x42#64)) := by
  decide
-- IdleCoreWaitsAndHostWritesPortsOnly: the idle core, and each action of the host
theorem test_witness_idle :
    nextOf (step ready) = some ready ∧ nextOf (step { ready with script := [.host .read] }) = some ready ∧
    nextOf (step { ready with script := [.host (.driveCmd (some 0x42#64))] }) = some (asked 0x42#64) ∧
    nextOf (step { ready with script := [.host (.driveFrame [[true]])] }) = some { ready with frame := [[true]] } := by
  decide
-- BuildIsFixedAndTraceOnlyGrows, WritersOf…, PortsAreTheHosts, PerformingKeepsTheActs: instructions with a next state
theorem test_witness_frames :
    (nextOf (exec (.pinWrite 13#4 true) (busyWith [0x1D01#16]))).isSome = true ∧
    (nextOf (exec .pinConfig (busyWith [0x9000#16]))).isSome = true ∧
    (nextOf (exec (.init 5#32 .random) (State.resetOf smallBuild))).isSome = true ∧
    (nextOf (exec (.gridWrite 1#5 8#5 true) (busyWith [0x8051#16]))).isSome = true ∧
    (nextOf (exec .gridClear (busyWith [0xA000#16]))).isSome = true ∧
    (nextOf (exec .initDone (busyWith [0xB000#16]))).isSome = true ∧
    (nextOf (step { ready with script := [.host .reset] })).isSome = true := by decide
-- WritersOfStatus: BUSY rises with an accepted command, and falls with the last micro-operation
theorem test_witness_busy :
    decodeCmd 0x42#64 = .ok (.setPixel 0#8 0#8 true) ∧ ready.busy = false ∧ ready.faulted = false ∧
    (nextOf (exec (.setPixel 0#8 0#8 true) ready)).map (fun t => (t.busy, t.seq.length)) = some (true, 7) ∧
    (nextOf (exec .updateFrame ready)).map (fun t => (t.busy, t.seq.length)) = some (false, 0) ∧
    decodeUop 0x1D01#16 = .ok (.pinWrite 13#4 true) ∧ (busyWith [0x1D01#16]).busy = true ∧
    (nextOf (exec (.pinWrite 13#4 true) (busyWith [0x1D01#16]))).map (fun t => (t.busy, t.seq.length)) =
      some (false, 0) := by decide
-- PerformingKeepsTheActs
theorem test_witness_performing :
    (busyWith [0x1D01#16]).seq.head? = some 0x1D01#16 ∧ WellFormed smallBuild (.pinWrite 13#4 true) = true := by decide
-- StepKeepsTheInvariant, InvariantStatesAreNeverRefused: an invariant state with a next step, in the middle of a pulse
theorem test_witness_inv_step : pulsing.Inv ∧ (nextOf (step pulsing)).isSome = true :=
  ⟨test_witness_pulsing_inv, by decide⟩
-- InvariantStatesAreNeverRefused, AddressLinesChangeOnlyWhileThePulseIsOff: a stopped invariant state
theorem test_witness_stopped_inv : stopped.Inv ∧ stopped.faulted = true ∧ stopped.script = [] := by
  refine ⟨?_, by decide, rfl⟩
  exact ⟨test_small_legal, by unfold Memory.wf; decide, by decide, by decide, fun h => (nomatch h),
    fun _ => ⟨.range, by decide⟩, by decide, by decide, .stopped (by decide) rfl, ⟨by decide, .off, by decide, by decide⟩⟩
-- AddressLinesChangeOnlyWhileThePulseIsOff: a step that changes line 8
theorem test_witness_address_step :
    addressing.Inv ∧ addressing.pinOut[8] = some false ∧
    (nextOf (step addressing)).map (fun t => t.pinOut[8]) = some (some true) ∧ addressing.pinOut[13] = some false :=
  ⟨test_witness_addressing_inv, by decide, by decide, by decide⟩
-- OnlyThePulseWaitWhileAsserted: before the pulse wait, and after it
theorem test_witness_asserted :
    pulsing.pinOut[13] = some true ∧ pulsing.actsToCome = [.wait .pulse, .write 13 false, .wait .recovery] := by decide

end Sys2Proof.Tests
end

section
/-!
PROOFS. Observation: what each observation of the outside answers (10_state.md R23, R25, R35), and from it the
GPIO output mux and the values after reset (R37).
-/

namespace Sys2Proof

/-- 00 R13: the GPIO numbers of a legal build are distinct. -/
theorem Build.Legal.lineId_inj {b : Build} (hb : b.Legal) {j k : Line} {g : Nat}
    (hj : b.lineId[j.val] = some g) (hk : b.lineId[k.val] = some g) : j = k := by
  obtain ⟨-, -, -, -, -, distinct⟩ := hb
  exact distinct j k (by simp [hj]) (hj.trans hk.symm)

end Sys2Proof

namespace Sys2Proof.Machine

/-! ### Lines and GPIO lines -/

theorem mem_allLines (k : Line) : k ∈ allLines := List.mem_finRange k

/-- All the mux can do: GPIO line g carries a present line whose `LINE_ID` is g, or no present line has that `LINE_ID`
and g is not driven. -/
theorem State.gpio_cases (s : State) (n g : Nat) :
    (∃ k : Line, s.build.present k = true ∧ s.build.lineId[k.val] = some g ∧ s.gpio n g = s.phys n k) ∨
    ((∀ k : Line, s.build.present k = true → s.build.lineId[k.val] ≠ some g) ∧ s.gpio n g = .z) := by
  unfold State.gpio
  split
  next k hfind =>
    have hk := List.find?_some hfind
    obtain ⟨hpresent, hid⟩ : s.build.present k = true ∧ s.build.lineId[k.val] = some g := by simpa using hk
    exact .inl ⟨k, hpresent, hid, rfl⟩
  next hfind =>
    refine .inr ⟨fun k hpresent hid => ?_, rfl⟩
    have hk := List.find?_eq_none.mp hfind k (mem_allLines k)
    simp [hpresent, hid] at hk

theorem State.phys_of_unconfigured {s : State} {k : Line} (h : s.pinCfg[k.val] = false) (n : Nat) :
    s.phys n k = .z := by
  simp [State.phys, h]

/-- Settles O11: `gpio_cases` names some line with that `LINE_ID`, and a legal build has no two. -/
theorem gpioLinesCarryTheirLine : Obligations.GpioLinesCarryTheirLine := by
  intro s n hb
  refine ⟨fun k g hpresent hid => ?_, fun g hunnamed => ?_⟩
  · obtain ⟨j, -, hj, hgpio⟩ | ⟨hnone, -⟩ := s.gpio_cases n g
    · rw [hgpio, hb.lineId_inj hj hid]
    · exact absurd hid (hnone k hpresent)
  · obtain ⟨j, -, hj, -⟩ | ⟨-, hz⟩ := s.gpio_cases n g
    · exact absurd hj (hunnamed j)
    · exact hz

/-! ### Output ports -/

theorem State.gridRead_of_grid_nil {s : State} (h : s.grid = []) (r c : Nat) : s.gridRead r c = none := by
  simp [State.gridRead, h, Memory.read]

theorem State.cfgQ_of_not_initialized {s : State} (h : s.initialized = false) : s.cfgQ = none := by
  simp [State.cfgQ, h]

theorem State.gridQ_of_not_initialized {s : State} (h : s.initialized = false) : s.gridQ = none := by
  simp [State.gridQ, h]

theorem State.cmdReady_eq_true_iff (s : State) : s.cmdReady = true ↔ s.busy = false ∧ s.faulted = false := by
  simp [State.cmdReady, State.ready]

/-! ### Reset -/

@[simp] theorem State.resetOf_busy (b : Build) : (State.resetOf b).busy = false := BitVec.getLsbD_zero
@[simp] theorem State.resetOf_initialized (b : Build) : (State.resetOf b).initialized = false := BitVec.getLsbD_zero
@[simp] theorem State.resetOf_faulted (b : Build) : (State.resetOf b).faulted = false := BitVec.getLsbD_zero

theorem State.resetOf_pinCfg (b : Build) (k : Line) : (State.resetOf b).pinCfg[k.val] = false :=
  Vector.getElem_replicate k.isLt

theorem State.resetOf_pinOut (b : Build) (k : Line) : (State.resetOf b).pinOut[k.val] = none :=
  Vector.getElem_replicate k.isLt

/-- Settles O34: the latches are read off `resetOf`, and each port from the flags after reset. -/
theorem resetValues : Obligations.ResetValues := by
  intro b
  have hpins (k : Line) := State.resetOf_pinCfg b k
  have hinit := State.resetOf_initialized b
  exact ⟨rfl, fun k => ⟨hpins k, State.resetOf_pinOut b k, State.phys_of_unconfigured (hpins k)⟩,
    rfl, State.gridRead_of_grid_nil rfl, rfl, rfl,
    State.cfgQ_of_not_initialized hinit, State.gridQ_of_not_initialized hinit,
    (State.cmdReady_eq_true_iff _).mpr ⟨State.resetOf_busy b, State.resetOf_faulted b⟩⟩

end Sys2Proof.Machine
end

section
/-!
PROOFS. Line decoder: PIN_WRITE on every kind of line (40_line_decoder.md R62, R63), with its legality (30_encoding.md
R59) and what performing the head of `SEQ` leaves (10_state.md R27, R31).
-/

namespace Sys2Proof.Machine

/-! ### Performing the head of SEQ -/

/-- 10 R27, R31: the whole of what `retire` writes, with `BUSY` in `statusPopped`. -/
theorem State.retire_eq (s : State) : s.retire = { s with seq := s.seq.tail, status := s.statusPopped } := by
  unfold State.retire State.statusPopped
  split
  next hlast => rw [hlast]; rfl
  next => rfl

/-! ### PIN_WRITE -/

theorem decodeUop_pinWrite_fields (k : BitVec 4) (v : Bool) :
    decodeUop (0x1000#16 ||| (k.setWidth 16 <<< 8) ||| (BitVec.ofBool v).setWidth 16) = .ok (.pinWrite k v) := by
  decide +revert

/-- 30 R59: a field K names no present line when it is above 13 or names an absent A3. -/
theorem lineOf_eq_none (b : Build) (k : BitVec 4) :
    lineOf b k = none ↔ 13 < k.toNat ∨ (k = 3#4 ∧ b.rowA3 = false) ∨ (k = 7#4 ∧ b.colA3 = false) := by
  rw [← Option.not_isSome_iff_eq_none, ← wellFormed_pinWrite b k false]
  simp [WellFormed, -not_and, not_and_or, or_assoc]

theorem exec_pinWrite_of_configured {s : State} {k : BitVec 4} {line : Line} (v : Bool)
    (hline : lineOf s.build k = some line) (hcfg : s.pinCfg[line.val] = true) :
    exec (.pinWrite k v) s = .next (State.pinWrite line v s).retire := by
  simp [exec, execPinWrite, hline, hcfg]

theorem exec_pinWrite_of_unconfigured {s : State} {k : BitVec 4} {line : Line} (v : Bool)
    (hline : lineOf s.build k = some line) (hcfg : s.pinCfg[line.val] = false) :
    exec (.pinWrite k v) s = .refused .unconfiguredLine := by
  simp [exec, execPinWrite, hline, hcfg]

theorem exec_pinWrite_of_no_line {s : State} {k : BitVec 4} (v : Bool) (hline : lineOf s.build k = none) :
    exec (.pinWrite k v) s = .next (State.raise .illegalUop s) := by
  simp [exec, execPinWrite, hline]

/-- Settles O12: K names a present line (`lineOf_eq_some`) or none (`lineOf_eq_none`), and a configured line's write is
a `pinWrite` whose `retire` is written out by `retire_eq`. -/
theorem pinWriteLatchesAndEmits : Obligations.PinWriteLatchesAndEmits := by
  refine fun k v => ⟨decodeUop_pinWrite_fields k v, fun s => ⟨?latched, ?refused, ?illegal⟩⟩
  case latched =>
    intro line hk hpresent hcfg
    have hline := (lineOf_eq_some s.build k line).mpr ⟨hk, hpresent⟩
    rw [exec_pinWrite_of_configured v hline hcfg, State.retire_eq]
    rfl
  case refused =>
    intro line hk hpresent hcfg
    have hline := (lineOf_eq_some s.build k line).mpr ⟨hk, hpresent⟩
    exact exec_pinWrite_of_unconfigured v hline hcfg
  case illegal =>
    intro hillegal
    exact exec_pinWrite_of_no_line v ((lineOf_eq_none s.build k).mpr hillegal)

end Sys2Proof.Machine
end

section
/-!
PROOFS. Enable decoder: the words of the four micro-operations and the expansions they put in place of themselves
(41_enable_decoder.md R74 to R77), with the legality of the field CC (30_encoding.md R59).
-/

namespace Sys2Proof.Machine

/-! ### ED_SET_ROW_OUTPUT and ED_SET_COL_OUTPUT -/

theorem decodeUop_edSetRowOutput_fields (g : BitVec 2) (p : BitVec 4) :
    decodeUop (0x3000#16 ||| (g.setWidth 16 <<< 4) ||| p.setWidth 16) = .ok (.edSetRowOutput g p) := by
  decide +revert

theorem decodeUop_edSetColOutput_fields (g : BitVec 2) (p : BitVec 4) :
    decodeUop (0x4000#16 ||| (g.setWidth 16 <<< 4) ||| p.setWidth 16) = .ok (.edSetColOutput g p) := by
  decide +revert

theorem exec_edSetRowOutput (g : BitVec 2) (p : BitVec 4) (s : State) :
    exec (.edSetRowOutput g p) s = .next (State.expand (edRowExpansion g p) s) := rfl

theorem exec_edSetColOutput (g : BitVec 2) (p : BitVec 4) (s : State) :
    exec (.edSetColOutput g p) s = .next (State.expand (edColExpansion g p) s) := rfl

/-- Settles O15: the meaning expands by `edRowExpansion`, whose three words are R74's. -/
theorem edSetRowOutputExpands : Obligations.EdSetRowOutputExpands := by
  refine fun g p => ⟨decodeUop_edSetRowOutput_fields g p, fun s => ?_⟩
  rw [exec_edSetRowOutput, State.expand, edRowExpansion]
  rfl

/-- Settles O16: the meaning expands by `edColExpansion`, whose three words are R75's. -/
theorem edSetColOutputExpands : Obligations.EdSetColOutputExpands := by
  refine fun g p => ⟨decodeUop_edSetColOutput_fields g p, fun s => ?_⟩
  rw [exec_edSetColOutput, State.expand, edColExpansion]
  rfl

/-! ### ENABLE_CHANNEL and DISABLE_CHANNEL -/

theorem decodeUop_enableChannel_field (cc : BitVec 2) :
    decodeUop (0x5000#16 ||| cc.setWidth 16) = .ok (.enableChannel cc) := by
  decide +revert

theorem decodeUop_disableChannel_field (cc : BitVec 2) :
    decodeUop (0x6000#16 ||| cc.setWidth 16) = .ok (.disableChannel cc) := by
  decide +revert

theorem exec_enableChannel (cc : BitVec 2) (s : State) : exec (.enableChannel cc) s = driveChannel cc true s := rfl

theorem exec_disableChannel (cc : BitVec 2) (s : State) : exec (.disableChannel cc) s = driveChannel cc false s := rfl

theorem channelLine_eq_some {cc : BitVec 2} (h : cc = 1#2 ∨ cc = 2#2) :
    channelLine cc = some (BitVec.ofNat 4 (11 + cc.toNat)) := by
  rcases h with rfl | rfl <;> rfl

/-- 30 R59: CC 0 and 3 name no channel. -/
theorem channelLine_eq_none {cc : BitVec 2} (h : cc = 0#2 ∨ cc = 3#2) : channelLine cc = none := by
  rcases h with rfl | rfl <;> rfl

/-- 41 R76, R77: what both micro-operations do for the level v they write. -/
theorem driveChannel_spec (cc : BitVec 2) (v : Bool) (s : State) :
    ((cc = 1#2 ∨ cc = 2#2) → driveChannel cc v s = .next { s with
      seq := wordPinWrite (BitVec.ofNat 4 (11 + cc.toNat)) v :: s.seq.tail }) ∧
    ((cc = 0#2 ∨ cc = 3#2) → driveChannel cc v s = .next (State.raise .illegalUop s)) := by
  refine ⟨fun hlegal => ?_, fun hillegal => ?_⟩
  · rw [driveChannel, channelLine_eq_some hlegal]
    rfl
  · rw [driveChannel, channelLine_eq_none hillegal]

/-- Settles O17: ENABLE_CHANNEL is `driveChannel` with level 1. -/
theorem enableChannelAsserts : Obligations.EnableChannelAsserts := by
  refine fun cc => ⟨decodeUop_enableChannel_field cc, fun s => ?_⟩
  rw [exec_enableChannel]
  exact driveChannel_spec cc true s

/-- Settles O18: DISABLE_CHANNEL is `driveChannel` with level 0. -/
theorem disableChannelDeasserts : Obligations.DisableChannelDeasserts := by
  refine fun cc => ⟨decodeUop_disableChannel_field cc, fun s => ?_⟩
  rw [exec_disableChannel]
  exact driveChannel_spec cc false s

end Sys2Proof.Machine
end

section
/-!
PROOFS. Timer: DELAY's word, its illegal kind, and the finished wait with what it leaves (42_timer.md R80, R81), with
the legality of the field TT (30_encoding.md R59).
-/

namespace Sys2Proof.Machine

theorem decodeUop_delay_field (tt : BitVec 2) : decodeUop (0x7000#16 ||| tt.setWidth 16) = .ok (.delay tt) := by
  decide +revert

theorem exec_delay_of_kind {tt : BitVec 2} {kind : DelayKind} (s : State) (hkind : delayKindOf tt = some kind) :
    exec (.delay tt) s = .next (State.waited kind s).retire := by
  simp [exec, execDelay, hkind]

theorem exec_delay_of_no_kind {tt : BitVec 2} (s : State) (hkind : delayKindOf tt = none) :
    exec (.delay tt) s = .next (State.raise .illegalUop s) := by
  simp [exec, execDelay, hkind]

/-- 42 R80: the whole of what a DELAY of any kind writes; the length exceeds its minimum by the free overrun (log 4). -/
theorem exec_delay_waits {tt : BitVec 2} {kind : DelayKind} (s : State) (hkind : delayKindOf tt = some kind) :
    ∃ actual draws : Nat, s.minimumUs kind ≤ actual ∧ exec (.delay tt) s = .next { s with
      trace := s.trace ++ [.wait kind (s.minimumUs kind) actual]
      seq := s.seq.tail
      status := s.statusPopped
      draws := draws } := by
  refine ⟨s.minimumUs kind + Config.freeOverrun s.draws, s.draws + 1, Nat.le_add_right _ _, ?_⟩
  rw [exec_delay_of_kind s hkind, State.retire_eq]
  rfl

/-- Settles O19: TT 0, 1 and 2 each name a kind, whose wait is `exec_delay_waits` at that kind's minimum, and TT 3
names none. -/
theorem delayWaitsAtLeastItsMinimum : Obligations.DelayWaitsAtLeastItsMinimum := by
  refine fun tt => ⟨decodeUop_delay_field tt, fun s => ⟨?illegal, ?waits⟩⟩
  case illegal =>
    rintro rfl
    exact exec_delay_of_no_kind s rfl
  case waits =>
    rintro kind min (⟨rfl, rfl, rfl⟩ | ⟨rfl, rfl, rfl⟩ | ⟨rfl, rfl, rfl⟩)
    · exact exec_delay_waits (kind := .pulse) s rfl
    · exact exec_delay_waits (kind := .recovery) s rfl
    · exact exec_delay_waits (kind := .settle) s rfl

end Sys2Proof.Machine
end

section
/-!
PROOFS. Micro-operation words of a pixel sequence: the encoder's word decodes to its instruction (30_encoding.md R56,
R57), and GRID_WRITE's word by the shifts of its fields.
-/

namespace Sys2Proof

theorem spells_iff {n : Nat} {w mask value : BitVec n} : spells w mask value = true ↔ w &&& mask = value := by
  simp [spells]

/-- A word does not spell a row from which it differs on part of the row's mask. -/
theorem spells_eq_false_of_and_ne {n : Nat} {w mask value part : BitVec n} (hpart : mask &&& part = part)
    (hne : w &&& part ≠ value &&& part) : spells w mask value = false := by
  rw [Bool.eq_false_iff, Ne, spells_iff]
  rintro rfl
  rw [BitVec.and_assoc, hpart] at hne
  exact hne rfl

@[simp] theorem decodeUop_wordEdSetRowOutput (g : BitVec 2) (p : BitVec 4) :
    decodeUop (wordEdSetRowOutput g p) = .ok (.edSetRowOutput g p) := by
  decide +revert

@[simp] theorem decodeUop_wordEdSetColOutput (g : BitVec 2) (p : BitVec 4) :
    decodeUop (wordEdSetColOutput g p) = .ok (.edSetColOutput g p) := by
  decide +revert

@[simp] theorem decodeUop_wordEnableChannel (cc : BitVec 2) :
    decodeUop (wordEnableChannel cc) = .ok (.enableChannel cc) := by
  decide +revert

@[simp] theorem decodeUop_wordDisableChannel (cc : BitVec 2) :
    decodeUop (wordDisableChannel cc) = .ok (.disableChannel cc) := by
  decide +revert

@[simp] theorem decodeUop_wordDelay (tt : BitVec 2) : decodeUop (wordDelay tt) = .ok (.delay tt) := by
  decide +revert

/-! ### GRID_WRITE's word -/

theorem wordGridWrite_row (r c : BitVec 5) (v : Bool) : (wordGridWrite r c v).extractLsb' 6 5 = r := by
  ext i hi
  simp only [wordGridWrite, BitVec.getElem_extractLsb', BitVec.getLsbD_append]
  grind

theorem wordGridWrite_col (r c : BitVec 5) (v : Bool) : (wordGridWrite r c v).extractLsb' 1 5 = c := by
  ext i hi
  simp only [wordGridWrite, BitVec.getElem_extractLsb', BitVec.getLsbD_append]
  grind

theorem wordGridWrite_val (r c : BitVec 5) (v : Bool) : (wordGridWrite r c v).getLsbD 0 = v := by
  simp only [wordGridWrite, BitVec.getLsbD_append, BitVec.getLsbD_ofBool]
  simp

/-- GRID_WRITE's row is the only one whose field UC is 8, so its pattern alone decides the decoder. -/
theorem decodeUop_of_gridWrite_pattern {w : UopWord} (h : w &&& 0xF800#16 = 0x8000#16) :
    decodeUop w = .ok (.gridWrite (w.extractLsb' 6 5) (w.extractLsb' 1 5) (w.getLsbD 0)) := by
  have huc : w &&& 0xF000#16 = 0x8000#16 := by
    rw [show 0xF000#16 = 0xF800#16 &&& 0xF000#16 from rfl, ← BitVec.and_assoc, h]
    rfl
  have hother {mask value : UopWord} (hmask : mask &&& 0xF000#16 = 0xF000#16)
      (hvalue : value &&& 0xF000#16 ≠ 0x8000#16) : spells w mask value = false :=
    spells_eq_false_of_and_ne hmask (huc ▸ hvalue.symm)
  simp (disch := decide) [decodeUop, hother, spells_iff.mpr h]

@[simp] theorem decodeUop_wordGridWrite (r c : BitVec 5) (v : Bool) :
    decodeUop (wordGridWrite r c v) = .ok (.gridWrite r c v) := by
  rw [decodeUop_of_gridWrite_pattern (Laws.RowPattern.gridWrite r c v), wordGridWrite_row, wordGridWrite_col,
    wordGridWrite_val]

/-- 30 R57: the fields of GRID_WRITE's word by their shifts. -/
theorem gridWrite_fields_eq_word (r c : BitVec 5) (v : Bool) :
    0x8000#16 ||| (r.setWidth 16 <<< 6) ||| (c.setWidth 16 <<< 1) ||| (BitVec.ofBool v).setWidth 16 =
      wordGridWrite r c v := by
  rw [show 0x8000#16 = (0x8#4 ++ 0#1).setWidth 16 <<< 11 from rfl]
  refine BitVec.eq_of_getLsbD_eq fun i hi => ?_
  simp only [wordGridWrite, BitVec.getLsbD_or, BitVec.getLsbD_shiftLeft, BitVec.getLsbD_setWidth,
    BitVec.getLsbD_append]
  grind

end Sys2Proof
end

section
/-!
PROOFS. Addressing: groups, offsets and output positions with their ranges, and the words of a pixel sequence
(43_display_controller.md R87 to R90).
-/

namespace Sys2Proof

/-- 00 R12: every cell of a legal build has its row and column below 28. -/
theorem Build.Legal.cell_lt {b : Build} (hb : b.Legal) {r c : Nat} (hr : r < b.height) (hc : c < b.width) :
    r < 28 ∧ c < 28 := by
  obtain ⟨-, hheight, -, hwidth, -, -⟩ := hb
  exact ⟨hr.trans_le hheight, hc.trans_le hwidth⟩

end Sys2Proof

namespace Sys2Proof.Machine

/-! ### Groups and offsets -/

theorem groupOf_eq (i : Nat) : groupOf i = i / 7 := rfl

theorem offsetOf_eq (i : Nat) : offsetOf i = i % 7 := rfl

/-- 43 R87: 28 rows or columns fall into four groups. -/
theorem groupOf_le_three {i : Nat} (h : i < 28) : groupOf i ≤ 3 := by
  rw [groupOf_eq]
  omega

theorem groupOf_le_one {i : Nat} (h : i < 14) : groupOf i ≤ 1 := by
  rw [groupOf_eq]
  omega

theorem offsetOf_le_six (i : Nat) : offsetOf i ≤ 6 := by
  rw [offsetOf_eq]
  omega

/-- Settles O6: a legal build has at most 28 rows and columns, and `groupOf_le_three` bounds the group of each. -/
theorem groupsAndOffsetsFit : Obligations.GroupsAndOffsetsFit := by
  intro b r c hb hr hc
  obtain ⟨hr28, hc28⟩ := hb.cell_lt hr hc
  refine ⟨groupOf_eq r, offsetOf_eq r, groupOf_eq c, offsetOf_eq c, groupOf_le_three hr28, groupOf_le_three hc28,
    offsetOf_le_six r, offsetOf_le_six c, fun hheight _ => ?_⟩
  exact groupOf_le_one (by omega)

/-! ### Output positions -/

theorem position_of_set {b : Build} {v : Bool} (o : Nat) (h : valueIsReset b v = false) :
    position b o v = o + 1 := by
  simp [position, h]

theorem position_of_reset {b : Build} {v : Bool} (o : Nat) (h : valueIsReset b v = true) :
    position b o v = o + 9 := by
  simp [position, h]

/-- Settles O7: the range of o + 1 for a set and of o + 9 for a reset. -/
theorem outputPositionRanges : Obligations.OutputPositionRanges := by
  refine fun b o v ho => ⟨rfl, rfl, fun hset => ?_, fun hreset => ?_⟩
  · rw [position_of_set o hset]
    omega
  · rw [position_of_reset o hreset]
    omega

/-- 43 R89: an output position fits the field P. -/
theorem position_offsetOf_lt (b : Build) (i : Nat) (v : Bool) : position b (offsetOf i) v < 16 := by
  obtain ⟨-, -, hset, hreset⟩ := outputPositionRanges b (offsetOf i) v (offsetOf_le_six i)
  cases h : valueIsReset b v with
  | false => exact (hset h).2.trans_lt (by decide)
  | true => exact (hreset h).2.trans_lt (by decide)

/-! ### The pixel sequence -/

/-- 43 R90: the seven instructions of a pixel sequence. -/
theorem pixelSeq_map_decodeUop (b : Build) (v : Bool) (rc : Nat × Nat) :
    (pixelSeq b v rc).map decodeUop =
      [.ok (.edSetRowOutput (BitVec.ofNat 2 (groupOf rc.1)) (BitVec.ofNat 4 (position b (offsetOf rc.1) v))),
       .ok (.edSetColOutput (BitVec.ofNat 2 (groupOf rc.2)) (BitVec.ofNat 4 (position b (offsetOf rc.2) v))),
       .ok (.enableChannel 2#2), .ok (.delay 0#2), .ok (.disableChannel 2#2), .ok (.delay 1#2),
       .ok (.gridWrite (BitVec.ofNat 5 rc.1) (BitVec.ofNat 5 rc.2) v)] := by
  simp [pixelSeq]

/-- Settles O8: the words decode by `pixelSeq_map_decodeUop`, and each operand is below the size of its field. -/
theorem pixelSequenceHasSevenOperations : Obligations.PixelSequenceHasSevenOperations := by
  intro b r c v hb hr hc
  obtain ⟨hr28, hc28⟩ := hb.cell_lt hr hc
  exact ⟨pixelSeq_map_decodeUop b v (r, c),
    Nat.mod_eq_of_lt ((groupOf_le_three hr28).trans_lt (by decide)),
    Nat.mod_eq_of_lt ((groupOf_le_three hc28).trans_lt (by decide)),
    Nat.mod_eq_of_lt (position_offsetOf_lt b r v),
    Nat.mod_eq_of_lt (position_offsetOf_lt b c v),
    Nat.mod_eq_of_lt (hr28.trans (by decide)),
    Nat.mod_eq_of_lt (hc28.trans (by decide))⟩

end Sys2Proof.Machine
end

section
/-!
PROOFS. GRID_WRITE: inside and outside the grid (43_display_controller.md R94), over the laws of GridRead and GridWrite
(20_memory.md R39, R40).
-/

namespace Sys2Proof.Machine

theorem inGrid_eq_true_iff (b : Build) (r c : Nat) : inGrid b r c = true ↔ r < b.height ∧ c < b.width := by
  simp [inGrid]

theorem inGrid_eq_false_iff (b : Build) (r c : Nat) : inGrid b r c = false ↔ b.height ≤ r ∨ b.width ≤ c := by
  simp [inGrid, or_iff_not_imp_left]

theorem exec_gridWrite_of_inside {s : State} {r c : BitVec 5} (v : Bool)
    (hin : inGrid s.build r.toNat c.toNat = true) :
    exec (.gridWrite r c v) s = .next (State.gridWrite r.toNat c.toNat v s).retire := by
  simp [exec, execGridWrite, hin]

theorem exec_gridWrite_of_outside {s : State} {r c : BitVec 5} (v : Bool)
    (hout : inGrid s.build r.toNat c.toNat = false) :
    exec (.gridWrite r c v) s = .next (State.raise .illegalUop s) := by
  simp [exec, execGridWrite, hout]

@[simp] theorem State.retire_gridRead (s : State) (r c : Nat) : s.retire.gridRead r c = s.gridRead r c :=
  State.gridRead_congr s s.retire (State.retire_build s) (State.retire_grid s) r c

/-- Settles O20: inside the grid the next state is a `gridWrite`, whose readings are the laws of GridWrite, and whose
`retire` is written out by `retire_eq`. -/
theorem gridWriteSetsOneCell : Obligations.GridWriteSetsOneCell := by
  refine fun r c v => ⟨?decoded, fun s => ⟨?inside, ?outside⟩⟩
  case decoded =>
    rw [gridWrite_fields_eq_word, decodeUop_wordGridWrite]
  case inside =>
    intro hr hc
    have hin := (inGrid_eq_true_iff s.build r.toNat c.toNat).mpr ⟨hr, hc⟩
    refine ⟨_, exec_gridWrite_of_inside v hin, ?_, fun r' c' hne => ?_, ?_⟩
    · rw [State.retire_gridRead, State.gridRead_gridWrite_same s _ _ v hin]
    · rw [State.retire_gridRead, State.gridRead_gridWrite_other s _ _ _ _ v hin hne]
    · rw [State.retire_eq]
      rfl
  case outside =>
    intro hout
    exact exec_gridWrite_of_outside v ((inGrid_eq_false_iff s.build r.toNat c.toNat).mpr hout)

end Sys2Proof.Machine
end

section
/-!
PROOFS. Sweep orders: the sort by column is a stable sort (43_display_controller.md R98), and the order of each mode
that draws nothing (R97, R100).
-/

namespace Sys2Proof.Machine

theorem byColumn_perm (ds : List (Nat × Nat)) : (byColumn ds).Perm ds := List.perm_insertionSort _ ds

theorem byColumn_pairwise (ds : List (Nat × Nat)) : (byColumn ds).Pairwise fun a b => a.2 ≤ b.2 :=
  have : Std.Total fun a b : Nat × Nat => a.2 ≤ b.2 := ⟨fun a b => Nat.le_total a.2 b.2⟩
  have : IsTrans (Nat × Nat) fun a b => a.2 ≤ b.2 := ⟨fun _ _ _ => Nat.le_trans⟩
  List.pairwise_insertionSort _ ds

/-- The cells of one column are already in order, so the sort keeps them as a sublist. -/
theorem filter_column_sublist_byColumn (ds : List (Nat × Nat)) (c : Nat) :
    (ds.filter fun a => a.2 == c).Sublist (byColumn ds) := by
  refine List.sublist_insertionSort (List.pairwise_filter.mpr ?_) List.filter_sublist
  refine List.pairwise_of_forall fun a b ha hb => ?_
  rw [eq_of_beq ha, eq_of_beq hb]

/-- 43 R98, stability: cells of one column keep their order. The sorted list's cells of that column contain the old
ones in order, and there are as many of them. -/
theorem byColumn_filter_column (ds : List (Nat × Nat)) (c : Nat) :
    (byColumn ds).filter (fun a => a.2 == c) = ds.filter fun a => a.2 == c := by
  have hsub := (filter_column_sublist_byColumn ds c).filter fun a => a.2 == c
  rw [List.filter_filter] at hsub
  simp only [Bool.and_self] at hsub
  have hlength := ((byColumn_perm ds).filter fun a => a.2 == c).length_eq
  exact (hsub.eq_of_length hlength.symm).symm

/-- Settles O23: each mode selects its order, and under ColumnMajor that is `byColumn`, a stable sort. -/
theorem sweepOrders : Obligations.SweepOrders := by
  refine fun s ds => ⟨fun hmode => ?rowMajor, fun hmode => ?diagonal, fun hmode => ?columnMajor⟩
  case rowMajor => rw [State.sweepOrder, hmode]
  case diagonal => rw [State.sweepOrder, hmode]
  case columnMajor =>
    have horder : s.sweepOrder ds = byColumn ds := by rw [State.sweepOrder, hmode]
    rw [horder]
    exact ⟨byColumn_perm ds, byColumn_pairwise ds, byColumn_filter_column ds⟩

end Sys2Proof.Machine
end

section
/-!
PROOFS. GRID_CLEAR: its loop of GridWrites writes the grid alone (44_init.md R110), and every cell then reads 0, over
the law of GRID_CLEAR's loop (`State.clearGrid_gridRead`).
-/

namespace Sys2Proof.Machine

theorem foldl_gridWrite_eq (l : List (Nat × Nat)) (s : State) :
    l.foldl (fun t rc => t.gridWrite rc.1 rc.2 false) s =
      { s with grid := (l.foldl (fun t rc => t.gridWrite rc.1 rc.2 false) s).grid } := by
  induction l generalizing s with
  | nil => rfl
  | cons rc l ih => exact ih (s.gridWrite rc.1 rc.2 false)

theorem State.clearGrid_eq (s : State) : s.clearGrid = { s with grid := s.clearGrid.grid } :=
  foldl_gridWrite_eq (cells s.build) s

theorem State.clearGrid_gridRead_of_inside {s : State} {r c : Nat} (hr : r < s.build.height)
    (hc : c < s.build.width) : s.clearGrid.gridRead r c = some false := by
  rw [State.clearGrid_gridRead, if_pos ((inGrid_eq_true_iff s.build r c).mpr ⟨hr, hc⟩)]

theorem exec_gridClear (s : State) : exec .gridClear s = .next s.clearGrid.retire := rfl

/-- Settles O21: the next state is a `clearGrid`, which writes the grid alone, and whose `retire` is written out by
`retire_eq`. -/
theorem gridClearZeroesEveryCell : Obligations.GridClearZeroesEveryCell := by
  refine ⟨rfl, fun s => ⟨_, exec_gridClear s, fun r c hr hc => ?_, ?_⟩⟩
  · rw [State.retire_gridRead, State.clearGrid_gridRead_of_inside hr hc]
  · rw [State.retire_grid, State.retire_eq, State.clearGrid_eq]
    rfl

end Sys2Proof.Machine
end

section
/-!
PROOFS. PIN_CONFIG: the two outcomes of the platform's draw (44_init.md R109), and what each leaves in `PIN_CFG`.
-/

namespace Sys2Proof.Machine

theorem State.configureLines_pinCfg_get (s : State) (k : Line) :
    s.configureLines.pinCfg[k.val] = if s.build.present k then true else s.pinCfg[k.val] := by
  cases hpresent : s.build.present k <;> simp [hpresent]

theorem State.configureSome_pinCfg_of_absent {s : State} {k : Line} (n : Nat) (habsent : s.build.present k = false) :
    (State.configureSome n s).pinCfg[k.val] = s.pinCfg[k.val] := by
  simp [habsent]

/-- 44 R109: the whole of what PIN_CONFIG writes when the platform configures the lines. -/
theorem State.configureLines_retire_eq (s : State) (n : Nat) :
    (State.drawn n s.configureLines).retire = { s with
      pinCfg := s.configureLines.pinCfg
      trace := s.trace ++ (allLines.filter s.build.present).map Event.configure
      seq := s.seq.tail
      status := s.statusPopped
      draws := s.draws + n } := by
  rw [State.retire_eq]
  rfl

/-- Settles O25: the free value of the draw selects one of the two outcomes of `execPinConfig_cases`. -/
theorem pinConfigConfiguresOrFaults : Obligations.PinConfigConfiguresOrFaults := by
  refine ⟨rfl, fun s => ?_⟩
  obtain hconfigured | hfaulted := execPinConfig_cases s
  case inl =>
    exact ⟨_, hconfigured, .inl ⟨s.configureLines.pinCfg, s.draws + 1, s.configureLines_pinCfg_get,
      s.configureLines_retire_eq 1⟩⟩
  case inr =>
    exact ⟨_, hfaulted, .inr ⟨(State.configureSome (s.draws + 1) s).pinCfg, s.draws + 15,
      fun _ => State.configureSome_pinCfg_of_absent (s.draws + 1), rfl⟩⟩

end Sys2Proof.Machine
end

section
/-!
PROOFS. Words of both formats: each row of the encoding tables as the values of its fields (30_encoding.md R53, R57),
and from it that decoder and encoder are inverse (R55, R56, R59).
-/

namespace Sys2Proof

/-! ### A word and its fields -/

theorem append_eq_append_iff {n m : Nat} {a c : BitVec n} {b d : BitVec m} :
    a ++ b = c ++ d ↔ a = c ∧ b = d := by
  refine ⟨fun h => ⟨?_, ?_⟩, by rintro ⟨rfl, rfl⟩; rfl⟩
  · simpa only [BitVec.extractLsb'_append_eq_left] using congrArg (BitVec.extractLsb' m n) h
  · simpa only [BitVec.extractLsb'_append_eq_right] using congrArg (BitVec.extractLsb' 0 m) h

/-- A pattern on a field that is cut in two is a pattern on each part. -/
theorem extract_and_append_eq_iff {N n m s : Nat} (w : BitVec N) (mh vh : BitVec n) (ml vl : BitVec m) :
    w.extractLsb' s (n + m) &&& (mh ++ ml) = vh ++ vl ↔
      w.extractLsb' (s + m) n &&& mh = vh ∧ w.extractLsb' s m &&& ml = vl := by
  rw [← BitVec.extractLsb'_append_extractLsb'_eq_extractLsb' (x := w) (start₁ := s) (len₁ := m) rfl,
    BitVec.and_append, append_eq_append_iff]

theorem ofBool_getLsbD {n : Nat} (w : BitVec n) (i : Nat) : BitVec.ofBool (w.getLsbD i) = w.extractLsb' i 1 := by
  ext j hj
  obtain rfl : j = 0 := by omega
  simp

theorem extract_one_eq_zero_iff {n : Nat} (w : BitVec n) (i : Nat) :
    w.extractLsb' i 1 = 0#1 ↔ w.getLsbD i = false := by
  rw [← ofBool_getLsbD]
  cases w.getLsbD i <;> decide

theorem append_extract {N s len len' t : Nat} (w : BitVec N) (h : t = s + len) :
    w.extractLsb' t len' ++ w.extractLsb' s len = w.extractLsb' s (len' + len) :=
  BitVec.extractLsb'_append_extractLsb'_eq_extractLsb' h

theorem spells_iff_extract {n : Nat} {w mask value : BitVec n} :
    spells w mask value = true ↔ w.extractLsb' 0 n &&& mask = value := by
  rw [spells_iff, BitVec.extractLsb'_eq_self]

/-! ### The rows, by the width of the fields that must be 0 -/

theorem spells_pinWrite_iff (w : UopWord) :
    spells w 0xF0FE#16 0x1000#16 = true ↔ w.extractLsb' 12 4 = 1#4 ∧ w.extractLsb' 1 7 = 0#7 := by
  rw [spells_iff_extract]
  show w.extractLsb' 0 (4 + (4 + (7 + 1))) &&& (BitVec.allOnes 4 ++ (0#4 ++ (BitVec.allOnes 7 ++ 0#1))) =
    1#4 ++ (0#4 ++ (0#7 ++ 0#1)) ↔ _
  simp only [extract_and_append_eq_iff]
  simp only [BitVec.and_allOnes, BitVec.and_zero, Nat.reduceAdd, true_and, and_true]

theorem spells_ldSetOutput_iff (w : UopWord) :
    spells w 0xFEF0#16 0x2000#16 = true ↔
      w.extractLsb' 12 4 = 2#4 ∧ w.extractLsb' 9 3 = 0#3 ∧ w.extractLsb' 4 4 = 0#4 := by
  rw [spells_iff_extract]
  show w.extractLsb' 0 (4 + (3 + (1 + (4 + 4)))) &&&
      (BitVec.allOnes 4 ++ (BitVec.allOnes 3 ++ (0#1 ++ (BitVec.allOnes 4 ++ 0#4)))) =
    2#4 ++ (0#3 ++ (0#1 ++ (0#4 ++ 0#4))) ↔ _
  simp only [extract_and_append_eq_iff]
  simp only [BitVec.and_allOnes, BitVec.and_zero, Nat.reduceAdd, true_and, and_true]

/-- ED_SET_ROW_OUTPUT and ED_SET_COL_OUTPUT. -/
theorem spells_group_iff (w : UopWord) (uc : BitVec 4) :
    spells w 0xFFC0#16 (uc ++ 0#12) = true ↔ w.extractLsb' 12 4 = uc ∧ w.extractLsb' 6 6 = 0#6 := by
  rw [spells_iff_extract]
  show w.extractLsb' 0 (4 + (6 + 6)) &&& (BitVec.allOnes 4 ++ (BitVec.allOnes 6 ++ 0#6)) = uc ++ (0#6 ++ 0#6) ↔ _
  simp only [extract_and_append_eq_iff]
  simp only [BitVec.and_allOnes, BitVec.and_zero, Nat.reduceAdd, and_true]

/-- ENABLE_CHANNEL, DISABLE_CHANNEL and DELAY. -/
theorem spells_twoBits_iff (w : UopWord) (uc : BitVec 4) :
    spells w 0xFFFC#16 (uc ++ 0#12) = true ↔ w.extractLsb' 12 4 = uc ∧ w.extractLsb' 2 10 = 0#10 := by
  rw [spells_iff_extract]
  show w.extractLsb' 0 (4 + (10 + 2)) &&& (BitVec.allOnes 4 ++ (BitVec.allOnes 10 ++ 0#2)) =
    uc ++ (0#10 ++ 0#2) ↔ _
  simp only [extract_and_append_eq_iff]
  simp only [BitVec.and_allOnes, BitVec.and_zero, Nat.reduceAdd, and_true]

theorem spells_gridWrite_iff (w : UopWord) :
    spells w 0xF800#16 0x8000#16 = true ↔ w.extractLsb' 12 4 = 8#4 ∧ w.getLsbD 11 = false := by
  rw [spells_iff_extract, ← extract_one_eq_zero_iff]
  show w.extractLsb' 0 (4 + (1 + 11)) &&& (BitVec.allOnes 4 ++ (BitVec.allOnes 1 ++ 0#11)) =
    8#4 ++ (0#1 ++ 0#11) ↔ _
  simp only [extract_and_append_eq_iff]
  simp only [BitVec.and_allOnes, BitVec.and_zero, Nat.reduceAdd, and_true]

/-- PIN_CONFIG, GRID_CLEAR and INIT_DONE. -/
theorem spells_noField_iff (w : UopWord) (uc : BitVec 4) :
    spells w 0xFFFF#16 (uc ++ 0#12) = true ↔ w.extractLsb' 12 4 = uc ∧ w.extractLsb' 0 12 = 0#12 := by
  rw [spells_iff_extract]
  show w.extractLsb' 0 (4 + 12) &&& (BitVec.allOnes 4 ++ BitVec.allOnes 12) = uc ++ 0#12 ↔ _
  simp only [extract_and_append_eq_iff]
  simp only [BitVec.and_allOnes, Nat.reduceAdd]

theorem spells_init_iff (w : CmdWord) :
    spells w 0x00000000FFFFFFCF#64 0x0000000000000001#64 = true ↔
      w.extractLsb' 0 4 = 1#4 ∧ w.extractLsb' 6 26 = 0#26 := by
  rw [spells_iff_extract]
  show w.extractLsb' 0 (32 + (26 + (2 + 4))) &&&
      (0#32 ++ (BitVec.allOnes 26 ++ (0#2 ++ BitVec.allOnes 4))) = 0#32 ++ (0#26 ++ (0#2 ++ 1#4)) ↔ _
  simp only [extract_and_append_eq_iff]
  simp only [BitVec.and_allOnes, BitVec.and_zero, Nat.reduceAdd, true_and]
  exact and_comm

theorem spells_setPixel_iff (w : CmdWord) :
    spells w 0xFFFFFFFFFF0000BF#64 0x0000000000000002#64 = true ↔
      w.extractLsb' 0 4 = 2#4 ∧ w.extractLsb' 4 2 = 0#2 ∧ w.getLsbD 7 = false ∧ w.extractLsb' 24 40 = 0#40 := by
  rw [spells_iff_extract, ← extract_one_eq_zero_iff]
  show w.extractLsb' 0 (40 + (16 + (1 + (1 + (2 + 4))))) &&&
      (BitVec.allOnes 40 ++ (0#16 ++ (BitVec.allOnes 1 ++ (0#1 ++ (BitVec.allOnes 2 ++ BitVec.allOnes 4))))) =
    0#40 ++ (0#16 ++ (0#1 ++ (0#1 ++ (0#2 ++ 2#4)))) ↔ _
  simp only [extract_and_append_eq_iff]
  simp only [BitVec.and_allOnes, BitVec.and_zero, Nat.reduceAdd, true_and]
  tauto

theorem spells_updateFrame_iff (w : CmdWord) :
    spells w 0xFFFFFFFFFFFFFFFF#64 0x0000000000000003#64 = true ↔
      w.extractLsb' 0 4 = 3#4 ∧ w.extractLsb' 4 60 = 0#60 := by
  rw [spells_iff_extract]
  show w.extractLsb' 0 (60 + 4) &&& (BitVec.allOnes 60 ++ BitVec.allOnes 4) = 0#60 ++ 3#4 ↔ _
  simp only [extract_and_append_eq_iff]
  simp only [BitVec.and_allOnes, Nat.reduceAdd]
  exact and_comm

/-! ### The decoders over the fields -/

/-- The micro-operation decoder over the fields of the word (30 R57, R59). -/
theorem decodeUop_eq (w : UopWord) : decodeUop w =
    if w.extractLsb' 12 4 = 1#4 ∧ w.extractLsb' 1 7 = 0#7 then .ok (.pinWrite (w.extractLsb' 8 4) (w.getLsbD 0))
    else if w.extractLsb' 12 4 = 2#4 ∧ w.extractLsb' 9 3 = 0#3 ∧ w.extractLsb' 4 4 = 0#4 then
      .ok (.ldSetOutput (Decoder.ofBit (w.getLsbD 8)) (w.extractLsb' 0 4))
    else if w.extractLsb' 12 4 = 3#4 ∧ w.extractLsb' 6 6 = 0#6 then
      .ok (.edSetRowOutput (w.extractLsb' 4 2) (w.extractLsb' 0 4))
    else if w.extractLsb' 12 4 = 4#4 ∧ w.extractLsb' 6 6 = 0#6 then
      .ok (.edSetColOutput (w.extractLsb' 4 2) (w.extractLsb' 0 4))
    else if w.extractLsb' 12 4 = 5#4 ∧ w.extractLsb' 2 10 = 0#10 then .ok (.enableChannel (w.extractLsb' 0 2))
    else if w.extractLsb' 12 4 = 6#4 ∧ w.extractLsb' 2 10 = 0#10 then .ok (.disableChannel (w.extractLsb' 0 2))
    else if w.extractLsb' 12 4 = 7#4 ∧ w.extractLsb' 2 10 = 0#10 then .ok (.delay (w.extractLsb' 0 2))
    else if w.extractLsb' 12 4 = 8#4 ∧ w.getLsbD 11 = false then
      .ok (.gridWrite (w.extractLsb' 6 5) (w.extractLsb' 1 5) (w.getLsbD 0))
    else if w.extractLsb' 12 4 = 9#4 ∧ w.extractLsb' 0 12 = 0#12 then .ok .pinConfig
    else if w.extractLsb' 12 4 = 10#4 ∧ w.extractLsb' 0 12 = 0#12 then .ok .gridClear
    else if w.extractLsb' 12 4 = 11#4 ∧ w.extractLsb' 0 12 = 0#12 then .ok .initDone
    else if 1 ≤ (w.extractLsb' 12 4).toNat ∧ (w.extractLsb' 12 4).toNat ≤ 11 then .error .reservedBits
    else .error .reservedOp := by
  simp only [← spells_pinWrite_iff, ← spells_ldSetOutput_iff, ← spells_group_iff, ← spells_twoBits_iff,
    ← spells_gridWrite_iff, ← spells_noField_iff]
  rfl

theorem decodeCmd_eq (w : CmdWord) : decodeCmd w =
    if w.extractLsb' 0 4 = 1#4 ∧ w.extractLsb' 6 26 = 0#26 then
      .ok (.init (w.extractLsb' 32 32) (SweepMode.ofBits (w.extractLsb' 4 2)))
    else if w.extractLsb' 0 4 = 2#4 ∧ w.extractLsb' 4 2 = 0#2 ∧ w.getLsbD 7 = false ∧ w.extractLsb' 24 40 = 0#40 then
      .ok (.setPixel (w.extractLsb' 8 8) (w.extractLsb' 16 8) (w.getLsbD 6))
    else if w.extractLsb' 0 4 = 3#4 ∧ w.extractLsb' 4 60 = 0#60 then .ok .updateFrame
    else if 1 ≤ (w.extractLsb' 0 4).toNat ∧ (w.extractLsb' 0 4).toNat ≤ 3 then .error .reservedBits
    else .error .reservedOp := by
  simp only [← spells_init_iff, ← spells_setPixel_iff, ← spells_updateFrame_iff]
  rfl

/-! ### The micro-operation decoder by the field UC -/

/-- The instruction of a micro-operation word whose field UC is given (30 R57, R59). -/
def decodeClass (w : UopWord) : Nat → Except Reject Instr
  | 1 => if w.extractLsb' 1 7 = 0#7 then .ok (.pinWrite (w.extractLsb' 8 4) (w.getLsbD 0)) else .error .reservedBits
  | 2 => if w.extractLsb' 9 3 = 0#3 ∧ w.extractLsb' 4 4 = 0#4 then
      .ok (.ldSetOutput (Decoder.ofBit (w.getLsbD 8)) (w.extractLsb' 0 4)) else .error .reservedBits
  | 3 => if w.extractLsb' 6 6 = 0#6 then .ok (.edSetRowOutput (w.extractLsb' 4 2) (w.extractLsb' 0 4))
    else .error .reservedBits
  | 4 => if w.extractLsb' 6 6 = 0#6 then .ok (.edSetColOutput (w.extractLsb' 4 2) (w.extractLsb' 0 4))
    else .error .reservedBits
  | 5 => if w.extractLsb' 2 10 = 0#10 then .ok (.enableChannel (w.extractLsb' 0 2)) else .error .reservedBits
  | 6 => if w.extractLsb' 2 10 = 0#10 then .ok (.disableChannel (w.extractLsb' 0 2)) else .error .reservedBits
  | 7 => if w.extractLsb' 2 10 = 0#10 then .ok (.delay (w.extractLsb' 0 2)) else .error .reservedBits
  | 8 => if w.getLsbD 11 = false then .ok (.gridWrite (w.extractLsb' 6 5) (w.extractLsb' 1 5) (w.getLsbD 0))
    else .error .reservedBits
  | 9 => if w.extractLsb' 0 12 = 0#12 then .ok .pinConfig else .error .reservedBits
  | 10 => if w.extractLsb' 0 12 = 0#12 then .ok .gridClear else .error .reservedBits
  | 11 => if w.extractLsb' 0 12 = 0#12 then .ok .initDone else .error .reservedBits
  | _ => .error .reservedOp

theorem exists_lt_ofNat {n : Nat} (x : BitVec n) : ∃ k < 2 ^ n, x = BitVec.ofNat n k :=
  ⟨x.toNat, x.isLt, by simp⟩

theorem decodeUop_eq_decodeClass (w : UopWord) : decodeUop w = decodeClass w (w.extractLsb' 12 4).toNat := by
  rw [decodeUop_eq]
  obtain ⟨uc, hlt, huc⟩ := exists_lt_ofNat (w.extractLsb' 12 4)
  rw [huc]
  interval_cases uc <;> simp [decodeClass]

/-! ### The encoder's words decode to their instructions -/

@[simp] theorem Decoder.ofBit_bit (d : Decoder) : Decoder.ofBit d.bit = d := by cases d <;> rfl

@[simp] theorem Decoder.bit_ofBit (v : Bool) : (Decoder.ofBit v).bit = v := by cases v <;> rfl

@[simp] theorem SweepMode.ofBits_bits (mode : SweepMode) : SweepMode.ofBits mode.bits = mode := by
  cases mode <;> rfl

@[simp] theorem SweepMode.bits_ofBits (m : BitVec 2) : (SweepMode.ofBits m).bits = m := by
  decide +revert

@[simp] theorem decodeUop_wordPinWrite (k : BitVec 4) (v : Bool) :
    decodeUop (wordPinWrite k v) = .ok (.pinWrite k v) := by
  decide +revert

@[simp] theorem decodeUop_wordLdSetOutput (d : Decoder) (p : BitVec 4) :
    decodeUop (wordLdSetOutput d p) = .ok (.ldSetOutput d p) := by
  cases d <;> decide +revert

@[simp] theorem decodeUop_wordPinConfig : decodeUop wordPinConfig = .ok .pinConfig := rfl

@[simp] theorem decodeUop_wordGridClear : decodeUop wordGridClear = .ok .gridClear := rfl

@[simp] theorem decodeUop_wordInitDone : decodeUop wordInitDone = .ok .initDone := rfl

theorem wordInit_pulse (pulse : BitVec 32) (mode : SweepMode) : (wordInit pulse mode).extractLsb' 32 32 = pulse := by
  show (pulse ++ 0#26 ++ mode.bits ++ 0x1#4).extractLsb' 32 32 = pulse
  simp (disch := decide) only [BitVec.extractLsb'_append_eq_of_le]
  exact BitVec.extractLsb'_eq_self

theorem wordInit_mode (pulse : BitVec 32) (mode : SweepMode) : (wordInit pulse mode).extractLsb' 4 2 = mode.bits := by
  show (pulse ++ 0#26 ++ mode.bits ++ 0x1#4).extractLsb' 4 2 = mode.bits
  rw [BitVec.extractLsb'_append_eq_of_le (by decide)]
  exact BitVec.extractLsb'_append_eq_right

@[simp] theorem decodeCmd_wordInit (pulse : BitVec 32) (mode : SweepMode) :
    decodeCmd (wordInit pulse mode) = .ok (.init pulse mode) := by
  have hrow : spells _ _ _ = true := spells_iff.mpr (Laws.RowPattern.init pulse mode)
  rw [decodeCmd, if_pos hrow, wordInit_pulse, wordInit_mode, SweepMode.ofBits_bits]

theorem wordSetPixel_row (row col : BitVec 8) (val : Bool) : (wordSetPixel row col val).extractLsb' 8 8 = row := by
  show (0#40 ++ col ++ row ++ 0#1 ++ BitVec.ofBool val ++ 0#2 ++ 0x2#4).extractLsb' 8 8 = row
  simp (disch := decide) only [BitVec.extractLsb'_append_eq_of_le]
  exact BitVec.extractLsb'_append_eq_right

theorem wordSetPixel_col (row col : BitVec 8) (val : Bool) : (wordSetPixel row col val).extractLsb' 16 8 = col := by
  show (0#40 ++ col ++ row ++ 0#1 ++ BitVec.ofBool val ++ 0#2 ++ 0x2#4).extractLsb' 16 8 = col
  simp (disch := decide) only [BitVec.extractLsb'_append_eq_of_le]
  exact BitVec.extractLsb'_append_eq_right

theorem wordSetPixel_val (row col : BitVec 8) (val : Bool) : (wordSetPixel row col val).getLsbD 6 = val := by
  simp only [wordSetPixel, BitVec.getLsbD_append, BitVec.getLsbD_ofBool]
  simp

@[simp] theorem decodeCmd_wordSetPixel (row col : BitVec 8) (val : Bool) :
    decodeCmd (wordSetPixel row col val) = .ok (.setPixel row col val) := by
  have hrow := (spells_setPixel_iff _).mp (spells_iff.mpr (Laws.RowPattern.setPixel row col val))
  rw [decodeCmd_eq, if_neg (by simp [hrow]), if_pos hrow, wordSetPixel_row, wordSetPixel_col, wordSetPixel_val]

@[simp] theorem decodeCmd_wordUpdateFrame : decodeCmd wordUpdateFrame = .ok .updateFrame := rfl

/-- Settles O1: for each instruction the decoder reads the fields back from the encoder's word. -/
theorem decodeOfEncode : Obligations.DecodeOfEncode := by
  intro i
  cases i <;> simp [encode, decode]

/-! ### A word that decodes is the word of its instruction -/

/-- 30 R57: in each class the decoder takes the word apart and the encoder puts the same fields together. -/
theorem encode_of_decodeUop {w : UopWord} {i : Instr} (h : decodeUop w = .ok i) : encode i = .uop w := by
  rw [decodeUop_eq_decodeClass] at h
  obtain ⟨uc, hlt, huc⟩ := exists_lt_ofNat (w.extractLsb' 12 4)
  rw [huc, BitVec.toNat_ofNat, Nat.mod_eq_of_lt hlt, decodeClass.eq_def] at h
  split at h
  case h_12 => cases h
  case h_2 =>
    split_ifs at h with hz
    cases h
    simp (disch := decide) only [encode, wordLdSetOutput, Decoder.bit_ofBit, ← huc, ← hz.1, ← hz.2, ofBool_getLsbD,
      append_extract]
    exact congrArg Code.uop BitVec.extractLsb'_eq_self
  case h_8 =>
    split_ifs at h with hz
    cases h
    rw [← extract_one_eq_zero_iff] at hz
    simp (disch := decide) only [encode, wordGridWrite, ← huc, ← hz, ofBool_getLsbD, append_extract]
    exact congrArg Code.uop BitVec.extractLsb'_eq_self
  case h_9 | h_10 | h_11 =>
    split_ifs at h with hz
    cases h
    have hw : w.extractLsb' 12 4 ++ w.extractLsb' 0 12 = w := BitVec.extractLsb'_append_extractLsb'
    rw [huc, hz] at hw
    exact congrArg Code.uop hw
  all_goals
    split_ifs at h with hz
    cases h
    simp (disch := decide) only [encode, wordPinWrite, wordEdSetRowOutput, wordEdSetColOutput, wordEnableChannel,
      wordDisableChannel, wordDelay, ← huc, ← hz, ofBool_getLsbD, append_extract]
    exact congrArg Code.uop BitVec.extractLsb'_eq_self

/-- 30 R53: as for micro-operations. -/
theorem encode_of_decodeCmd {w : CmdWord} {i : Instr} (h : decodeCmd w = .ok i) : encode i = .cmd w := by
  rw [decodeCmd_eq] at h
  split_ifs at h with hinit hpixel hframe
  case pos =>
    cases h
    simp (disch := decide) only [encode, wordInit, SweepMode.bits_ofBits, ← hinit.1, ← hinit.2, append_extract]
    exact congrArg Code.cmd BitVec.extractLsb'_eq_self
  case pos =>
    cases h
    obtain ⟨hop, h45, h7, hhigh⟩ := hpixel
    rw [← extract_one_eq_zero_iff] at h7
    simp (disch := decide) only [encode, wordSetPixel, ← hop, ← h45, ← h7, ← hhigh, ofBool_getLsbD, append_extract]
    exact congrArg Code.cmd BitVec.extractLsb'_eq_self
  case pos =>
    cases h
    have hw : w.extractLsb' 4 60 ++ w.extractLsb' 0 4 = w := BitVec.extractLsb'_append_extractLsb'
    rw [hframe.1, hframe.2] at hw
    exact congrArg Code.cmd hw

/-- Settles O2: in either format. -/
theorem encodeOfDecode : Obligations.EncodeOfDecode := by
  intro c i h
  cases c with
  | cmd w => exact encode_of_decodeCmd h
  | uop w => exact encode_of_decodeUop h

/-! ### Legal words -/

/-- Settles O3: the decoder's three rows, over the fields. -/
theorem legalCommandWords : Obligations.LegalCommandWords := by
  intro w
  rw [decodeCmd_eq]
  split_ifs with hinit hpixel hframe hop
  · exact iff_of_true ⟨_, rfl⟩ (.inl hinit)
  · exact iff_of_true ⟨_, rfl⟩ (.inr (.inl hpixel))
  · exact iff_of_true ⟨_, rfl⟩ (.inr (.inr hframe))
  all_goals exact iff_of_false (fun ⟨_, h⟩ => nomatch h) (by tauto)

/-- Settles O5: each word by running the decoder. -/
theorem sampleWordsDecode : Obligations.SampleWordsDecode := by
  unfold Obligations.SampleWordsDecode
  decide

end Sys2Proof
end

section
/-!
PROOFS. Legality of micro-operation words: the fields of 30_encoding.md R59 decide whether the head of `SEQ` is performed
or raises F_ILLEGAL_UOP.
-/

namespace Sys2Proof.Machine

/-- The cases of 30 R59, by the fields of the word. -/
def IllegalByFields (b : Build) (w : UopWord) : Prop :=
  let uc := (w.extractLsb' 12 4).toNat
  uc = 0 ∨ 12 ≤ uc ∨
  (uc = 1 ∧ (w.extractLsb' 1 7 ≠ 0#7 ∨ 13 < (w.extractLsb' 8 4).toNat ∨
    (w.extractLsb' 8 4 = 3#4 ∧ b.rowA3 = false) ∨ (w.extractLsb' 8 4 = 7#4 ∧ b.colA3 = false))) ∨
  (uc = 2 ∧ (w.extractLsb' 4 4 ≠ 0#4 ∨ w.extractLsb' 9 3 ≠ 0#3)) ∨
  ((uc = 3 ∨ uc = 4) ∧ w.extractLsb' 6 6 ≠ 0#6) ∨
  ((uc = 5 ∨ uc = 6) ∧ (w.extractLsb' 2 10 ≠ 0#10 ∨ (w.extractLsb' 0 2 ≠ 1#2 ∧ w.extractLsb' 0 2 ≠ 2#2))) ∨
  (uc = 7 ∧ (w.extractLsb' 2 10 ≠ 0#10 ∨ w.extractLsb' 0 2 = 3#2)) ∨
  (uc = 8 ∧ (w.getLsbD 11 = true ∨ b.height ≤ (w.extractLsb' 6 5).toNat ∨ b.width ≤ (w.extractLsb' 1 5).toNat)) ∨
  ((uc = 9 ∨ uc = 10 ∨ uc = 11) ∧ w.extractLsb' 0 12 ≠ 0#12)

/-- `decodeClass` refuses the bits that must be 0 and `WellFormed` the fields' values. -/
theorem exists_wellFormed_iff (b : Build) (w : UopWord) :
    (∃ i, decodeUop w = .ok i ∧ WellFormed b i = true) ↔ ¬ IllegalByFields b w := by
  unfold IllegalByFields
  rw [decodeUop_eq_decodeClass]
  obtain ⟨uc, hlt, huc⟩ := exists_lt_ofNat (w.extractLsb' 12 4)
  simp only [huc, BitVec.toNat_ofNat, Nat.mod_eq_of_lt hlt]
  clear huc
  interval_cases uc <;> simp [decodeClass, ite_eq_iff, WellFormed]
  -- left are the classes of PIN_WRITE, LD_SET_OUTPUT and the two of the channels, by propositional logic
  all_goals tauto

/-! ### Performing the head of SEQ -/

theorem coreTurn_of_faulted {s : State} (hf : s.faulted = true) : coreTurn s = .next s := by
  simp [coreTurn, hf]

theorem coreTurn_of_fetch {s : State} {c : Code} (hf : s.faulted = false) (hc : s.fetch = some c) :
    coreTurn s = performWord c s := by
  simp [coreTurn, hf, hc]

theorem coreTurn_of_fetch_none {s : State} (hc : s.fetch = none) : coreTurn s = .next s := by
  simp [coreTurn, hc]

theorem fetch_of_seq_cons {s : State} {w : UopWord} {rest : List UopWord} (hs : s.seq = w :: rest) :
    s.fetch = some (.uop w) := by
  simp [State.fetch, hs]

/-- 10 R31: the core performs the head of SEQ, whatever BUSY says (log 18). -/
theorem coreTurn_of_seq_cons {s : State} {w : UopWord} {rest : List UopWord} (hf : s.faulted = false)
    (hs : s.seq = w :: rest) : coreTurn s = performWord (.uop w) s :=
  coreTurn_of_fetch hf (fetch_of_seq_cons hs)

/-- 30 R59: a micro-operation whose fields the build does not allow raises the fault. -/
theorem exec_of_illFormed {i : Instr} {s : State} (hi : isCommand i = false) (hwf : WellFormed s.build i = false) :
    exec i s = .next (State.raise .illegalUop s) := by
  cases i with
  | init | setPixel | updateFrame => cases hi
  | ldSetOutput | edSetRowOutput | edSetColOutput | pinConfig | gridClear | initDone => cases hwf
  | pinWrite k v =>
    rw [wellFormed_pinWrite, ← Bool.not_eq_true, Option.not_isSome_iff_eq_none] at hwf
    exact exec_pinWrite_of_no_line v hwf
  | enableChannel cc =>
    rw [wellFormed_enableChannel, ← Bool.not_eq_true, Option.not_isSome_iff_eq_none] at hwf
    simp [exec_enableChannel, driveChannel, hwf]
  | disableChannel cc =>
    rw [wellFormed_disableChannel, ← Bool.not_eq_true, Option.not_isSome_iff_eq_none] at hwf
    simp [exec_disableChannel, driveChannel, hwf]
  | delay tt =>
    rw [wellFormed_delay, ← Bool.not_eq_true, Option.not_isSome_iff_eq_none] at hwf
    exact exec_delay_of_no_kind s hwf
  | gridWrite r c v => exact exec_gridWrite_of_outside v hwf

/-- Settles O4: a word that decodes to a well-formed instruction is performed; any other is refused by the decoder or by
the meaning of its instruction, with one fault. -/
theorem illegalMicroOperationWords : Obligations.IllegalMicroOperationWords := by
  intro w s hf hhead
  obtain ⟨rest, hs⟩ := List.head?_eq_some_iff.mp hhead
  have hturn := coreTurn_of_seq_cons hf hs
  refine ⟨fun hillegal => ?illegal, fun hlegal => ?legal⟩
  case illegal =>
    have hnone := mt (exists_wellFormed_iff s.build w).mp (not_not.mpr hillegal)
    rw [hturn]
    cases hd : decodeUop w with
    | error e => exact performWord_error (.uop w) e s hd
    | ok i =>
      rw [performWord_ok (.uop w) i s hd]
      refine exec_of_illFormed (decodeUop_isCommand w i hd) ?_
      exact Bool.eq_false_iff.mpr fun hwf => hnone ⟨i, hd, hwf⟩
  case legal =>
    obtain ⟨i, hd, hwf⟩ := (exists_wellFormed_iff s.build w).mpr hlegal
    exact ⟨i, hd, hwf, hturn.trans (performWord_ok (.uop w) i s hd)⟩

end Sys2Proof.Machine
end

section
/-!
PROOFS. Single operations: the levels of the lines (10_state.md R25), LD_SET_OUTPUT's expansion (40_line_decoder.md R68),
INIT_DONE (44_init.md R111), and the operations on STATUS (10_state.md R27, 60_exceptions.md R115).
-/

namespace Sys2Proof.Machine

/-! ### STATUS -/

theorem putBit_reserved (w : BitVec 32) {i : Nat} (hi : i < 3) (v : Bool) :
    putBit w i v &&& 0xFFFFFF08#32 = w &&& 0xFFFFFF08#32 := by
  cases v with
  | true =>
    rw [putBit, if_pos rfl, BitVec.and_or_distrib_right]
    have hbit : 1#32 <<< i &&& 0xFFFFFF08#32 = 0#32 := by interval_cases i <;> rfl
    rw [hbit, BitVec.or_zero]
  | false =>
    rw [putBit, if_neg Bool.false_ne_true, BitVec.and_assoc]
    have hbit : ~~~(1#32 <<< i) &&& 0xFFFFFF08#32 = 0xFFFFFF08#32 := by interval_cases i <;> rfl
    rw [hbit]

theorem putCode_reserved (w : BitVec 32) (c : BitVec 4) :
    ((w &&& ~~~(0xF0#32)) ||| (c.setWidth 32 <<< 4)) &&& 0xFFFFFF08#32 = w &&& 0xFFFFFF08#32 := by
  have hcode : (c.setWidth 32 <<< 4) &&& 0xFFFFFF08#32 = 0#32 := by decide +revert
  rw [BitVec.and_or_distrib_right, hcode, BitVec.or_zero, BitVec.and_assoc]
  rfl

/-- 10 R27: raising a fault keeps the reserved bits. -/
theorem State.raise_reserved (c : FaultCode) (s : State) :
    (State.raise c s).status &&& 0xFFFFFF08#32 = s.status &&& 0xFFFFFF08#32 := by
  rw [State.raise_status, putBit_reserved _ (by decide)]
  cases s.faulted with
  | true => rfl
  | false =>
    rw [if_neg Bool.false_ne_true, State.setFaultCode_status, putCode_reserved]
    exact putBit_reserved _ (by decide) true

theorem State.raise_eq (c : FaultCode) (s : State) :
    State.raise c s = { s with seq := [], trace := (State.raise c s).trace, status := (State.raise c s).status } := by
  unfold State.raise
  cases s.faulted <;> rfl

/-- Settles O32: each field of the raised state is a law of `raise`. -/
theorem raiseRecordsTheFirstFault : Obligations.RaiseRecordsTheFirstFault := by
  intro s c
  refine ⟨State.raise_faulted c s, State.raise_initialized c s, State.raise_busy c s, State.raise_seq c s,
    fun hf => ⟨by simp [hf], ?_⟩, fun hf => by simp [hf], State.raise_eq c s, State.raise_reserved c s,
    coreTurn_of_faulted (State.raise_faulted c s)⟩
  rw [State.raise_faultCode, if_neg (by simp [hf])]
  rfl

/-! ### Lines -/

/-- Settles O10: the three cases of `phys`. -/
theorem physicalLevelOfEveryLine : Obligations.PhysicalLevelOfEveryLine := by
  refine fun s n k => ⟨fun hcfg => State.phys_of_unconfigured hcfg n, fun hcfg hout => ?_, fun v hcfg hout => ?_⟩
  · exact ⟨Config.freeLevel s n k.val, by simp [State.phys, hcfg, hout]⟩
  · simp [State.phys, hcfg, hout, physicalOf]

/-! ### LD_SET_OUTPUT -/

theorem decodeUop_ldSetOutput_fields (d : Decoder) (p : BitVec 4) :
    decodeUop (0x2000#16 ||| (match d with | .row => 0#16 | .col => 0x0100#16) ||| p.setWidth 16) =
      .ok (.ldSetOutput d p) := by
  cases d <;> decide +revert

theorem exec_ldSetOutput (d : Decoder) (p : BitVec 4) (s : State) :
    exec (.ldSetOutput d p) s = .next (State.expand (ldExpansion s.build d p) s) := rfl

/-- Settles O13: the meaning expands by `ldExpansion`, whose words are R68's for either decoder. -/
theorem ldSetOutputExpands : Obligations.LdSetOutputExpands := by
  refine fun d p => ⟨decodeUop_ldSetOutput_fields d p, fun s => ?_⟩
  rw [exec_ldSetOutput, State.expand, ldExpansion]
  cases d <;> rfl

/-! ### INIT_DONE -/

theorem exec_initDone (s : State) : exec .initDone s = .next (State.setInitialized true s).retire := rfl

/-- Settles O26: the next state sets INITIALIZED and retires the head of SEQ. -/
theorem initDoneSetsInitialized : Obligations.InitDoneSetsInitialized := by
  refine ⟨rfl, fun s => ⟨_, exec_initDone s, ?_, ?_, ?_, ?_, ?_⟩⟩
  · simp
  · simp
  · simp
  · simp
  · rw [State.retire_eq]
    rfl

end Sys2Proof.Machine
end

section
/-!
PROOFS. Turns and reset: what a turn of the core or of the host is (10_state.md R31, 70_reset_and_hazards.md R140), the
step of a decoded instruction, reset (R129) and the stopped core (60_exceptions.md R120).
-/

namespace Sys2Proof.Machine

/-- Settles O35: a turn of the host that asserts `rst` is `resetCore`. -/
theorem resetAbandonsEverything : Obligations.ResetAbandonsEverything := by
  intro s rest hscript
  rw [step, takeTurn, hscript]
  rfl

theorem step_of_script_nil {s : State} (hscript : s.script = []) (hf : s.faulted = false) : step s = coreTurn s := by
  simp [step, takeTurn, hscript, hf]

theorem step_of_core {s : State} {rest : List Turn} (hscript : s.script = .core :: rest) :
    step s = coreTurn { s with script := rest } := by
  simp [step, takeTurn, hscript]

theorem step_of_host {s : State} {a : HostAction} {rest : List Turn} (hscript : s.script = .host a :: rest) :
    step s = .next (State.hostAct a { s with script := rest }) := by
  simp [step, takeTurn, hscript]

/-- 10 R31, 60 R116: what the core fetches: the head of SEQ, or the command of an idle, ready core. -/
theorem coreTurn_of_decoded {s : State} {i : Instr} (hf : s.faulted = false)
    (h : (∃ w rest, s.seq = w :: rest ∧ decodeUop w = .ok i) ∨
      (∃ w, s.seq = [] ∧ s.busy = false ∧ s.cmd = some w ∧ decodeCmd w = .ok i)) : coreTurn s = exec i s := by
  obtain ⟨w, rest, hs, hd⟩ | ⟨w, hs, hb, hc, hd⟩ := h
  · exact (coreTurn_of_seq_cons hf hs).trans (performWord_ok (.uop w) i s hd)
  · have hfetch := (fetch_eq_some s (.cmd w)).mpr (.inr ⟨hs, (ready_iff s).mpr ⟨hb, hf⟩, w, hc, rfl⟩)
    exact (coreTurn_of_fetch hf hfetch).trans (performWord_ok (.cmd w) i s hd)

/-- Settles O37: with or without a script the turn is the core's, and taking it off the script changes nothing that the
core fetches. -/
theorem stepRunsTheDecodedInstruction : Obligations.StepRunsTheDecodedInstruction := by
  refine fun s i hf h => ⟨fun hscript => ?_, fun rest hscript => ?_⟩
  · rw [step_of_script_nil hscript hf, coreTurn_of_decoded hf h]
  · rw [step_of_core hscript]
    exact coreTurn_of_decoded (s := { s with script := rest }) hf h

theorem fetch_of_idle {s : State} (hseq : s.seq = []) (hcmd : s.cmd = none) : s.fetch = none := by
  simp [State.fetch, hseq, hcmd]

/-- Settles O38: the idle core fetches nothing, and each action of the host but reset names the port it drives. -/
theorem idleCoreWaitsAndHostWritesPortsOnly : Obligations.IdleCoreWaitsAndHostWritesPortsOnly := by
  refine ⟨fun s hscript hseq hcmd hf => ?idle, fun s a rest hreset hscript => ?host⟩
  case idle =>
    rw [step_of_script_nil hscript hf, coreTurn_of_fetch_none (fetch_of_idle hseq hcmd)]
  case host =>
    rw [step_of_host hscript]
    cases a with
    | driveCmd w => exact ⟨w, s.frame, rfl, by simp, by simp, by simp⟩
    | driveFrame f => exact ⟨s.cmd, f, rfl, by simp, by simp, by simp⟩
    | reset => exact absurd rfl hreset
    | read => exact ⟨s.cmd, s.frame, rfl, by simp, by simp, by simp⟩

/-- Settles O33: the stopped core's turn changes nothing, and the host's, but for reset, writes the ports only. -/
theorem faultsAreSticky : Obligations.FaultsAreSticky := by
  intro s t hf h
  obtain ⟨-, -, hstop⟩ | ⟨-, hf', -⟩ | ⟨rest, -, hcore⟩ | ⟨a, rest, hscript, hhost⟩ := step_cases s
  · rw [hstop] at h
    cases h
  · rw [hf] at hf'
    cases hf'
  · rw [hcore, coreTurn_of_faulted (s := { s with script := rest }) hf] at h
    cases h
    exact .inr ⟨hf, rfl, rfl, rfl, rfl, rfl, rfl, rfl, rfl, rfl⟩
  · rw [hhost] at h
    cases h
    cases a with
    | reset => exact .inl ⟨rest, hscript⟩
    | driveCmd | driveFrame | read => exact .inr ⟨hf, rfl, rfl, rfl, rfl, rfl, rfl, rfl, rfl, rfl⟩

end Sys2Proof.Machine
end

section
/-!
PROOFS. Construction: which builds are refused (00_scope.md R12, R13).
-/

namespace Sys2Proof.Machine

/-- Settles O36: `construct` decides `Legal`, which each of the listed builds breaks. -/
theorem illegalBuildsAreRefused : Obligations.IllegalBuildsAreRefused := by
  refine fun b => ⟨fun hbreaks => if_neg ?illegal, ?outcomes, fun hlegal => if_pos hlegal⟩
  case outcomes =>
    by_cases hlegal : b.Legal
    · exact .inr (if_pos hlegal)
    · exact .inl (if_neg hlegal)
  case illegal =>
    rintro ⟨hheight, hheight', hwidth, hwidth', hpresent, hdistinct⟩
    obtain h | h | h | h | ⟨k, hk, hnone⟩ | ⟨k, hk, hsome⟩ | ⟨j, k, hne, hj, hjk⟩ := hbreaks
    · omega
    · omega
    · omega
    · omega
    · simpa [hnone, hk] using hpresent k
    · exact hsome (by simpa [hk] using hpresent k)
    · exact hne (hdistinct j k (Option.isSome_iff_ne_none.mpr hj) hjk)

end Sys2Proof.Machine
end

section
/-!
PROOFS. The diff and the orders of a sweep: the diff is a filter of the row-major list of cells (43_display_controller.md
R96), and every order is a permutation of it (R97 to R100).
-/

namespace Sys2Proof.Machine

/-- The cell's target value differs from the grid. -/
def State.differs (s : State) (rc : Nat × Nat) : Bool := s.gridRead rc.1 rc.2 != some (frameBit s.frame rc.1 rc.2)

theorem diffAmong_eq_filter {s : State} {l : List (Nat × Nat)}
    (h : ∀ rc ∈ l, (s.gridRead rc.1 rc.2).isSome = true) : diffAmong s l = some (l.filter s.differs) := by
  induction l with
  | nil => rfl
  | cons rc l ih =>
    obtain ⟨hrc, hl⟩ := List.forall_mem_cons.mp h
    obtain ⟨v, hv⟩ := Option.isSome_iff_exists.mp hrc
    rw [diffAmong, hv, ih hl, List.filter_cons]
    simp [State.differs, hv, eq_comm (a := v), ite_not]

theorem State.diff_eq_filter {s : State} (h : s.GridComplete) : s.diff = some ((cells s.build).filter s.differs) :=
  diffAmong_eq_filter fun rc hrc => h rc.1 rc.2 ((mem_cells s.build rc.1 rc.2).mp hrc)

theorem cells_pairwise (b : Build) :
    (cells b).Pairwise fun x y => x.1 < y.1 ∨ (x.1 = y.1 ∧ x.2 < y.2) := by
  refine List.pairwise_flatMap.mpr ⟨fun r _ => ?_, ?_⟩
  · exact List.pairwise_map.mpr (List.pairwise_lt_range.imp fun hlt => .inr ⟨rfl, hlt⟩)
  · refine List.pairwise_lt_range.imp fun {r r'} hlt x hx y hy => ?_
    obtain ⟨c, -, rfl⟩ := List.mem_map.mp hx
    obtain ⟨c', -, rfl⟩ := List.mem_map.mp hy
    exact .inl hlt

/-- Settles O22: the diff is the filter of the cells by `differs`, which keeps their order. -/
theorem diffIsRowMajorListOfDifferences : Obligations.DiffIsRowMajorListOfDifferences := by
  refine fun s hgrid => ⟨_, State.diff_eq_filter hgrid, fun r c => ?_, (cells_pairwise s.build).filter _⟩
  rw [List.mem_filter, mem_cells, inGrid_eq_true_iff, and_assoc]
  simp [State.differs]

theorem permute_perm {α : Type} (l : List α) (π : Equiv.Perm (Fin l.length)) : (permute l π).Perm l := by
  have h := Equiv.Perm.ofFn_comp_perm π l.get
  rwa [List.ofFn_get] at h

/-- Under every mode the order is a permutation of the list. -/
theorem State.sweepOrder_perm (s : State) (ds : List (Nat × Nat)) : (s.sweepOrder ds).Perm ds := by
  unfold State.sweepOrder
  cases s.cfgSweep with
  | rowMajor => exact .refl ds
  | columnMajor => exact byColumn_perm ds
  | random => exact permute_perm ds _
  | diagonal => exact .refl ds

/-- Settles O24: whatever the free permutation is. -/
theorem randomSweepIsAPermutation : Obligations.RandomSweepIsAPermutation :=
  fun s ds _ => s.sweepOrder_perm ds

end Sys2Proof.Machine
end

section
/-!
PROOFS. Acceptance: the hold, the checks in their order (60_exceptions.md R116, R117), and the expansion each command
queues (44_init.md R108, 43_display_controller.md R92, R101, R104).
-/

namespace Sys2Proof.Machine

/-! ### The three outcomes of acceptance -/

section
variable {wanted : Bool} {code : FaultCode} {action : State → Host.Outcome State Fault Refusal} {s : State}

theorem accept_of_not_ready (hr : s.ready = false) : accept wanted code action s = .next s := by
  simp [accept, hr]

theorem accept_of_ready (hr : s.ready = true) (hi : s.initialized = wanted) :
    accept wanted code action s = action s.consume := by
  simp [accept, hr, hi]

theorem accept_of_wrong_stage (hr : s.ready = true) (hi : s.initialized ≠ wanted) :
    accept wanted code action s = .next (State.raise code s.consume) := by
  simp [accept, hr, hi]

end

theorem exec_init (pulse : BitVec 32) (mode : SweepMode) (s : State) :
    exec (.init pulse mode) s = accept false .reInit (startInit pulse mode) s := rfl

theorem exec_setPixel (row col : BitVec 8) (val : Bool) (s : State) :
    exec (.setPixel row col val) s = accept true .noInit (startPixel row col val) s := rfl

theorem exec_updateFrame (s : State) : exec .updateFrame s = accept true .noInit startFrame s := rfl

theorem decodeCmd_isCommand {w : CmdWord} {i : Instr} (h : decodeCmd w = .ok i) : isCommand i = true := by
  have he := encode_of_decodeCmd h
  cases i with
  | init | setPixel | updateFrame => rfl
  | _ => cases he

/-- 60 R116: a command is held while the core is not ready. -/
theorem exec_command_of_not_ready {i : Instr} {s : State} (hi : isCommand i = true) (hr : s.ready = false) :
    exec i s = .next s := by
  cases i with
  | init | setPixel | updateFrame => exact accept_of_not_ready hr
  | _ => cases hi

/-- Settles O31: a legal command word decodes to a command, which is held. -/
theorem commandsAreHeldWhileNotReady : Obligations.CommandsAreHeldWhileNotReady := by
  intro s c i hd hbusy
  refine exec_command_of_not_ready (decodeCmd_isCommand hd) ?_
  rw [← Bool.not_eq_true, ready_iff]
  rcases hbusy with h | h <;> simp [h]

/-! ### What each command queues -/

theorem State.begin_eq_of_ne_nil {ws : List UopWord} (h : ws ≠ []) (s : State) :
    State.begin ws s = { s with seq := ws, status := s.status ||| 1#32 } := by
  have hempty : (!ws.isEmpty) = true := by simpa using h
  rw [State.begin, hempty]
  rfl

theorem initSeq_ne_nil (b : Build) : initSeq b ≠ [] := by
  simp [initSeq]

theorem pixelSeq_ne_nil (b : Build) (v : Bool) (rc : Nat × Nat) : pixelSeq b v rc ≠ [] := by
  simp [pixelSeq]

/-- 44 R108: the expansion of INIT, with the cells of the startup clear in two loops. -/
theorem initSeq_eq (b : Build) : initSeq b =
    [0x9000#16, 0xA000#16, 0x5001#16, 0x6002#16, 0x7002#16] ++
      (if b.startupClear then
        (List.range b.height).flatMap fun r => (List.range b.width).flatMap fun c => pixelSeq b false (r, c)
       else []) ++ [0xB000#16] := by
  rw [initSeq, cells, List.flatMap_assoc]
  simp only [List.flatMap_map]
  rfl

/-- Settles O27: a ready, uninitialised core goes on to `startInit`, which begins `initSeq`. -/
theorem initIsAccepted : Obligations.InitIsAccepted := by
  intro s pulse mode hb hf hi
  rw [exec_init, accept_of_ready ((ready_iff s).mpr ⟨hb, hf⟩) hi, startInit,
    State.begin_eq_of_ne_nil (initSeq_ne_nil _), initSeq_eq]
  rfl

/-- Settles O28: a ready, initialised core goes on to `startPixel`, which begins `pixelSeq` inside the grid. -/
theorem setPixelIsAccepted : Obligations.SetPixelIsAccepted := by
  intro s row col val hb hf hi hrow hcol
  have hin : inGrid s.consume.build row.toNat col.toNat = true := (inGrid_eq_true_iff _ _ _).mpr ⟨hrow, hcol⟩
  rw [exec_setPixel, accept_of_ready ((ready_iff s).mpr ⟨hb, hf⟩) hi, startPixel, if_pos hin,
    State.begin_eq_of_ne_nil (pixelSeq_ne_nil _ _ _)]
  rfl

theorem frameFits_eq_true_iff (b : Build) (f : Frame) :
    frameFits b f = true ↔ f.length = b.height ∧ ∀ row ∈ f, row.length = b.width := by
  simp [frameFits]

theorem State.sweepSeq_eq_nil_iff (s : State) (ds : List (Nat × Nat)) : s.sweepSeq ds = [] ↔ ds = [] := by
  rw [State.sweepSeq, List.flatMap_eq_nil_iff]
  refine ⟨fun h => ?_, ?_⟩
  · rw [← List.perm_nil]
    refine (s.sweepOrder_perm ds).symm.trans (.of_eq (List.eq_nil_iff_forall_not_mem.mpr fun rc hrc => ?_))
    exact pixelSeq_ne_nil _ _ _ (h rc hrc)
  · rintro rfl
    simp [List.perm_nil.mp (s.sweepOrder_perm [])]

/-- 43 R101: the whole of what UPDATE_FRAME does for a diff. -/
theorem exec_updateFrame_of_diff {s : State} {ds : List (Nat × Nat)} (hr : s.ready = true)
    (hi : s.initialized = true) (hfit : frameFits s.build s.frame = true) (hd : s.diff = some ds) :
    exec .updateFrame s = .next { s with
      cmd := none
      status := if ds = [] then s.status &&& 0xFFFFFFFE#32 else s.status ||| 1#32
      seq := s.sweepSeq ds
      draws := s.draws + s.sweepDraws } := by
  have hfit' : frameFits s.consume.build s.consume.frame = true := hfit
  rw [exec_updateFrame, accept_of_ready hr hi, startFrame, if_pos hfit', State.diff_consume, hd]
  have hstatus : (State.begin (s.sweepSeq ds) s).status =
      if ds = [] then s.status &&& 0xFFFFFFFE#32 else s.status ||| 1#32 := by
    rw [State.begin_status]
    split
    next hnil => rw [(s.sweepSeq_eq_nil_iff ds).mpr hnil]; rfl
    next hne => rw [show (!(s.sweepSeq ds).isEmpty) = true by simpa [s.sweepSeq_eq_nil_iff] using hne]; rfl
  rw [← hstatus]
  rfl

/-- Settles O29: a complete grid has a diff, and the sweep of it is begun. -/
theorem updateFrameIsAccepted : Obligations.UpdateFrameIsAccepted := by
  intro s hb hf hi hgrid hheight hwidth
  have hdiff := State.diff_eq_filter hgrid
  exact ⟨_, _, hdiff, exec_updateFrame_of_diff ((ready_iff s).mpr ⟨hb, hf⟩) hi
    ((frameFits_eq_true_iff _ _).mpr ⟨hheight, hwidth⟩) hdiff⟩

/-- Settles O53: no cell differs, so the diff is empty and its sweep too. -/
theorem equalFrameDoesNothing : Obligations.EqualFrameDoesNothing := by
  intro s hb hf hi hheight hwidth hequal
  have hcell (r c : Nat) (hin : inGrid s.build r c = true) : s.gridRead r c = some (frameBit s.frame r c) :=
    hequal r c ((inGrid_eq_true_iff _ _ _).mp hin).1 ((inGrid_eq_true_iff _ _ _).mp hin).2
  have hdiff : s.diff = some [] := by
    rw [State.diff_eq_filter fun r c hin => by simp [hcell r c hin], List.filter_eq_nil_iff.mpr]
    intro rc hrc
    simp [State.differs, hcell rc.1 rc.2 ((mem_cells _ _ _).mp hrc)]
  refine ⟨s.draws + s.sweepDraws, ?_⟩
  rw [exec_updateFrame_of_diff ((ready_iff s).mpr ⟨hb, hf⟩) hi
    ((frameFits_eq_true_iff _ _).mpr ⟨hheight, hwidth⟩) hdiff, if_pos rfl, (s.sweepSeq_eq_nil_iff []).mpr rfl]

/-! ### The checks in their order -/

/-- 60 R116: a micro-operation never touches the port. -/
theorem exec_uop_cmd {i : Instr} {s t : State} (hi : isCommand i = false) (h : exec i s = .next t) : t.cmd = s.cmd := by
  cases exec_next i s t h with
  | held hc | commandFault _ hc => simp [hi] at hc
  | init _ _ hc | setPixel _ _ _ hc | updateFrame _ hc => subst hc; cases hi
  | illegal | pinWrite | ldSetOutput | edSetRowOutput | edSetColOutput | enableChannel | disableChannel | delay
  | gridWrite | pinConfig | pinConfigFails | gridClear | initDone => simp

/-- 60 R116: while SEQ is not empty the command stays on the port. -/
theorem coreTurn_cmd_of_seq_ne_nil {s u : State} (hseq : s.seq ≠ []) (h : coreTurn s = .next u) : u.cmd = s.cmd := by
  obtain ⟨-, hstay⟩ | ⟨-, -, hstay⟩ | ⟨c, -, hfetch, hperform⟩ := coreTurn_cases s
  · rw [hstay] at h
    cases h
    rfl
  · rw [hstay] at h
    cases h
    rfl
  · obtain ⟨w, us, -, rfl⟩ | ⟨hnil, -⟩ := (fetch_eq_some s c).mp hfetch
    · rw [hperform] at h
      cases hd : decodeUop w with
      | error e =>
        rw [performWord_error (.uop w) e s hd] at h
        cases h
        exact State.raise_cmd _ _
      | ok i =>
        rw [performWord_ok (.uop w) i s hd] at h
        exact exec_uop_cmd (decodeUop_isCommand w i hd) h
    · exact absurd hnil hseq

theorem fetch_of_command {s : State} {w : CmdWord} (hseq : s.seq = []) (hr : s.ready = true) (hcmd : s.cmd = some w) :
    s.fetch = some (.cmd w) :=
  (fetch_eq_some s (.cmd w)).mpr (.inr ⟨hseq, hr, w, hcmd, rfl⟩)

/-- Settles O30: a queue keeps the port, and an idle, ready core performs the command, whose checks are `accept`'s and then
those of its action. -/
theorem acceptanceChecksInOrder : Obligations.AcceptanceChecksInOrder := by
  intro s w hcmd
  refine ⟨fun hseq u hu => (coreTurn_cmd_of_seq_ne_nil hseq hu).trans hcmd, coreTurn_of_faulted, fun hseq hb => ?_,
    fun hseq hb hf => ?_⟩
  · exact coreTurn_of_fetch_none (by simp [State.fetch, hseq, State.ready, hb])
  have hr : s.ready = true := (ready_iff s).mpr ⟨hb, hf⟩
  have hturn := coreTurn_of_fetch hf (fetch_of_command hseq hr hcmd)
  have hexec {i : Instr} (hd : decodeCmd w = .ok i) : coreTurn s = exec i s :=
    hturn.trans (performWord_ok (.cmd w) i s hd)
  refine ⟨fun e hd => ?illegal, fun pulse mode hd hi => ?reInit,
    fun row col val hd => ⟨fun hi => ?noInit, fun hi hout => ?range⟩, fun hd => ⟨fun hi => ?noInit', fun hi hdim => ?frameDim⟩⟩
  case illegal => exact hturn.trans (performWord_error (.cmd w) e s hd)
  case reInit => rw [hexec hd, exec_init, accept_of_wrong_stage hr (by simp [hi])]; rfl
  case noInit => rw [hexec hd, exec_setPixel, accept_of_wrong_stage hr (by simp [hi])]; rfl
  case range =>
    have hin : inGrid s.consume.build row.toNat col.toNat = false := (inGrid_eq_false_iff _ _ _).mpr hout
    rw [hexec hd, exec_setPixel, accept_of_ready hr hi, startPixel, if_neg (Bool.eq_false_iff.mp hin)]
    rfl
  case noInit' => rw [hexec hd, exec_updateFrame, accept_of_wrong_stage hr (by simp [hi])]; rfl
  case frameDim =>
    have hfit : ¬ frameFits s.consume.build s.consume.frame = true := by
      rw [frameFits_eq_true_iff]
      rintro ⟨hheight, hwidth⟩
      obtain hne | ⟨row, hrow, hne⟩ := hdim
      · exact hne hheight
      · exact hne (hwidth row hrow)
    rw [hexec hd, exec_updateFrame, accept_of_ready hr hi, startFrame, if_neg hfit]
    rfl

end Sys2Proof.Machine
end

section
/-!
PROOFS. Frames over all instructions, each read off the one operation an instruction is (`exec_next`): the latches and the
configuration (10_state.md R24, R26), the grid (20_memory.md R38, R40), STATUS (10 R27, R28), the ports and the build
(10 R22, R35).
-/

namespace Sys2Proof.Machine

/-! ### Latches and configuration -/

/-- Settles O40: only `pinWrite` sets a latch, only `configureLines` and `configureSome` configure, only `setConfig` writes
`CFG_*`. -/
theorem writersOfLatchesAndConfiguration : Obligations.WritersOfLatchesAndConfiguration := by
  intro i s t h
  cases exec_next i s t h with
  | pinWrite k v line hi hk =>
    subst hi
    refine ⟨fun hne => absurd rfl (hne k v), fun k' v' he l hl => ?_, fun _ => by simp, fun _ => by simp⟩
    cases he
    have hne : line.val ≠ l.val := fun e => hl (by omega)
    simp [Vector.getElem_set_ne _ _ hne]
  | init pulse mode hi =>
    subst hi
    exact ⟨by simp, by simp, by simp, fun hne => absurd rfl (hne pulse mode)⟩
  | pinConfig hi | pinConfigFails hi =>
    subst hi
    simp
  | held | commandFault | setPixel | updateFrame | illegal | ldSetOutput | edSetRowOutput | edSetColOutput
  | enableChannel | disableChannel | delay | gridWrite | gridClear | initDone => simp

/-! ### The grid -/

theorem foldl_gridWrite_read_of_not_mem (l : List (Nat × Nat)) (s : State) (a : Nat)
    (h : ∀ rc ∈ l, a ≠ cellNumber s.build rc.1 rc.2) :
    (l.foldl (fun t rc => t.gridWrite rc.1 rc.2 false) s).grid.read a = s.grid.read a := by
  induction l generalizing s with
  | nil => rfl
  | cons rc l ih =>
    obtain ⟨hrc, hl⟩ := List.forall_mem_cons.mp h
    exact (ih (s.gridWrite rc.1 rc.2 false) hl).trans (Memory.read_write_of_ne _ _ _ _ hrc)

/-- 44 R110: GRID_CLEAR writes cells of the grid only. -/
theorem State.clearGrid_read_outside (s : State) {a : Nat} (ha : s.build.height * s.build.width ≤ a) :
    s.clearGrid.grid.read a = s.grid.read a := by
  refine foldl_gridWrite_read_of_not_mem _ s a fun rc hrc => ?_
  have := cellNumber_lt s.build rc.1 rc.2 ((mem_cells _ _ _).mp hrc)
  omega

/-- Settles O41: only `gridWrite` and `clearGrid` write the grid. -/
theorem writersOfTheGrid : Obligations.WritersOfTheGrid := by
  intro i s t h
  cases exec_next i s t h with
  | gridWrite r c v hi =>
    subst hi
    refine ⟨fun hne => absurd rfl (hne r c v), fun r' c' v' he a ha => ?_, fun he => (nomatch he)⟩
    cases he
    simpa using Memory.read_write_of_ne _ _ _ v ha
  | gridClear hi =>
    subst hi
    refine ⟨fun _ hne => absurd rfl hne, fun _ _ _ he => (nomatch he), fun _ a ha => ?_⟩
    simpa using s.clearGrid_read_outside ha
  | held | commandFault | init | setPixel | updateFrame | illegal | pinWrite | ldSetOutput | edSetRowOutput
  | edSetColOutput | enableChannel | disableChannel | delay | pinConfig | pinConfigFails | initDone => simp

/-! ### Ports, build and trace -/

/-- Settles O43: only `consume` writes a port. -/
theorem portsAreTheHosts : Obligations.PortsAreTheHosts := by
  intro i s t h
  have huop (w : UopWord) (hd : decodeUop w = .ok i) : t.cmd = s.cmd := exec_uop_cmd (decodeUop_isCommand w i hd) h
  cases exec_next i s t h with
  | _ => exact ⟨by simp, by simp, by simp, by simp, huop⟩

/-- 10 R33: an instruction appends events. -/
theorem exec_trace_append {i : Instr} {s t : State} (h : exec i s = .next t) : ∃ es, t.trace = s.trace ++ es := by
  have hraise (c : FaultCode) (u : State) : ∃ es, (State.raise c u).trace = u.trace ++ es := by
    cases hf : u.faulted with
    | true => exact ⟨[], by simp [hf]⟩
    | false => exact ⟨[.fault c], by simp [hf]⟩
  cases exec_next i s t h with
  | commandFault | illegal | pinConfigFails => exact hraise _ _
  | pinWrite | delay | pinConfig => exact ⟨_, by simp; rfl⟩
  | held | init | setPixel | updateFrame | ldSetOutput | edSetRowOutput | edSetColOutput | enableChannel
  | disableChannel | gridWrite | gridClear | initDone => exact ⟨[], by simp⟩

/-- A turn of the core stays, raises the fault of an illegal word, or is `exec` of the word's instruction. -/
theorem coreTurn_next {s t : State} (h : coreTurn s = .next t) :
    t = s ∨ (∃ c e, s.faulted = false ∧ s.fetch = some c ∧ decode c = .error e ∧ t = s.rejectWord c) ∨
    (∃ c i, s.faulted = false ∧ s.fetch = some c ∧ decode c = .ok i ∧ exec i s = .next t) := by
  obtain ⟨-, hstay⟩ | ⟨-, -, hstay⟩ | ⟨c, hf, hfetch, hperform⟩ := coreTurn_cases s
  · exact .inl (Host.Outcome.next.inj (h.symm.trans hstay))
  · exact .inl (Host.Outcome.next.inj (h.symm.trans hstay))
  · rw [hperform] at h
    cases hd : decode c with
    | error e =>
      rw [performWord_error c e s hd] at h
      exact .inr (.inl ⟨c, e, hf, hfetch, hd, (Host.Outcome.next.inj h).symm⟩)
    | ok i =>
      rw [performWord_ok c i s hd] at h
      exact .inr (.inr ⟨c, i, hf, hfetch, hd, h⟩)

theorem coreTurn_build_trace {s t : State} (h : coreTurn s = .next t) :
    t.build = s.build ∧ ∃ es, t.trace = s.trace ++ es := by
  obtain rfl | ⟨c, e, hf, -, -, rfl⟩ | ⟨c, i, -, -, -, hexec⟩ := coreTurn_next h
  · exact ⟨rfl, [], by simp⟩
  · cases c with
    | cmd => exact ⟨by simp [State.rejectWord], [.fault .illegalCmd], by simp [State.rejectWord, hf]⟩
    | uop => exact ⟨by simp [State.rejectWord], [.fault .illegalUop], by simp [State.rejectWord, hf]⟩
  · exact ⟨(portsAreTheHosts i s t hexec).1, exec_trace_append hexec⟩

/-- Settles O39: a turn of the core by `coreTurn_build_trace`, and a turn of the host writes neither but by reset. -/
theorem buildIsFixedAndTraceOnlyGrows : Obligations.BuildIsFixedAndTraceOnlyGrows := by
  intro s t h
  obtain ⟨-, -, hstop⟩ | ⟨-, -, hcore⟩ | ⟨rest, -, hcore⟩ | ⟨a, rest, hscript, hhost⟩ := step_cases s
  · rw [hstop] at h
    cases h
  · have ⟨hbuild, htrace⟩ := coreTurn_build_trace (hcore.symm.trans h)
    exact ⟨hbuild, .inr htrace⟩
  · have ⟨hbuild, htrace⟩ := coreTurn_build_trace (hcore.symm.trans h)
    exact ⟨hbuild, .inr htrace⟩
  · rw [hhost] at h
    cases h
    cases a with
    | reset => exact ⟨rfl, .inl ⟨rest, hscript⟩⟩
    | driveCmd | driveFrame | read => exact ⟨rfl, .inr ⟨[], (List.append_nil _).symm⟩⟩

/-! ### STATUS -/

section
variable {i : Instr} {s t : State}

theorem exec_initialized (h : exec i s = .next t) (hi : i ≠ .initDone) : t.initialized = s.initialized := by
  cases exec_next i s t h with
  | initDone he => exact absurd he hi
  | _ => simp

theorem exec_faulted_stays (h : exec i s = .next t) (hf : s.faulted = true) :
    t.faulted = true ∧ t.faultCode = s.faultCode := by
  cases exec_next i s t h with
  | commandFault _ _ hr | init _ _ _ hr | setPixel _ _ _ _ hr | updateFrame _ _ hr =>
    rw [ready_iff, hf] at hr
    exact absurd hr.2 (by decide)
  | held => exact ⟨hf, rfl⟩
  | illegal | pinConfigFails | pinWrite | ldSetOutput | edSetRowOutput | edSetColOutput | enableChannel
  | disableChannel | delay | gridWrite | pinConfig | gridClear | initDone => simp [hf]

theorem exec_faultCode_of_no_fault (h : exec i s = .next t) (hf : t.faulted = false) : t.faultCode = s.faultCode := by
  cases exec_next i s t h with
  | commandFault | illegal | pinConfigFails => simp at hf
  | _ => simp

/-- 60 R115: a fault is set with an empty SEQ, BUSY clear and its event. -/
theorem exec_faulted_cases (h : exec i s = .next t) (hf : t.faulted = true) :
    s.faulted = true ∨ (t.seq = [] ∧ t.busy = false ∧ ∃ c, t.trace = s.trace ++ [.fault c]) := by
  cases hs : s.faulted with
  | true => exact .inl rfl
  | false =>
    cases exec_next i s t h with
    | commandFault c => exact .inr ⟨by simp, by simp, c, by simp [hs]⟩
    | illegal => exact .inr ⟨by simp, by simp, .illegalUop, by simp [hs]⟩
    | pinConfigFails => exact .inr ⟨by simp, by simp, .pinCfg, by simp [hs]⟩
    | _ => simp [hs] at hf

theorem ldExpansion_ne_nil (b : Build) (d : Decoder) (p : BitVec 4) : ldExpansion b d p ≠ [] := by
  simp [ldExpansion]

theorem State.retire_busy_eq (s : State) : s.retire.busy = if s.retire.seq = [] then false else s.busy := by
  rw [State.retire_busy, State.retire_seq]

/-- 10 R27, R31: after a micro-operation BUSY is clear when SEQ is empty, and otherwise as it was. -/
theorem exec_uop_busy (h : exec i s = .next t) (hi : isCommand i = false) :
    t.busy = if t.seq = [] then false else s.busy := by
  cases exec_next i s t h with
  | held hc | commandFault _ hc => simp [hi] at hc
  | init _ _ hc | setPixel _ _ _ hc | updateFrame _ hc => subst hc; cases hi
  | ldSetOutput => simp [ldExpansion_ne_nil]
  | edSetRowOutput => simp [edRowExpansion]
  | edSetColOutput => simp [edColExpansion]
  | illegal | pinConfigFails | enableChannel | disableChannel => simp
  | pinWrite | delay | gridWrite | pinConfig => exact State.retire_busy_eq _
  | gridClear | initDone => rw [State.retire_busy_eq]; simp

/-- 10 R31, R32: after a command that a ready core takes, BUSY says whether SEQ holds work. -/
theorem exec_command_busy (h : exec i s = .next t) (hi : isCommand i = true) (hr : s.ready = true) :
    t.busy = true ↔ t.seq ≠ [] := by
  cases exec_next i s t h with
  | held _ hr' => rw [hr] at hr'; cases hr'
  | commandFault => simp
  | init | setPixel | updateFrame => simp
  | illegal hc => simp [hi] at hc
  | pinWrite _ _ _ hc | ldSetOutput _ _ hc | edSetRowOutput _ _ hc | edSetColOutput _ _ hc | enableChannel _ _ hc
  | disableChannel _ _ hc | delay _ _ hc | gridWrite _ _ _ hc | pinConfig hc | pinConfigFails hc | gridClear hc
  | initDone hc => subst hc; cases hi

theorem isCommand_eq_true_iff : isCommand i = true ↔
    (∃ pulse mode, i = .init pulse mode) ∨ (∃ row col val, i = .setPixel row col val) ∨ i = .updateFrame := by
  refine ⟨fun hi => ?_, ?_⟩
  · cases i with
    | init pulse mode => exact .inl ⟨pulse, mode, rfl⟩
    | setPixel row col val => exact .inr (.inl ⟨row, col, val, rfl⟩)
    | updateFrame => exact .inr (.inr rfl)
    | _ => cases hi
  · rintro (⟨_, _, rfl⟩ | ⟨_, _, _, rfl⟩ | rfl) <;> rfl

/-- BUSY rises only with a command that leaves work. -/
theorem exec_busy_rises (h : exec i s = .next t) (hs : s.busy = false) (ht : t.busy = true) :
    t.seq ≠ [] ∧ isCommand i = true := by
  cases hi : isCommand i with
  | false =>
    have hb := exec_uop_busy h hi
    rw [ht, hs] at hb
    simp at hb
  | true =>
    cases hr : s.ready with
    | true => exact ⟨(exec_command_busy h hi hr).mp ht, rfl⟩
    | false =>
      rw [exec_command_of_not_ready hi hr] at h
      cases h
      rw [hs] at ht
      cases ht

/-- BUSY falls only with SEQ empty. -/
theorem exec_busy_falls (h : exec i s = .next t) (hs : s.busy = true) (ht : t.busy = false) : t.seq = [] := by
  cases hi : isCommand i with
  | false =>
    have hb := exec_uop_busy h hi
    rw [ht, hs] at hb
    simpa using hb
  | true =>
    have hr : s.ready = false := by simp [State.ready, hs]
    rw [exec_command_of_not_ready hi hr] at h
    cases h
    rw [hs] at ht
    cases ht

/-- 10 R27: no instruction writes the reserved bits. -/
theorem exec_reserved (h : exec i s = .next t) : t.status &&& 0xFFFFFF08#32 = s.status &&& 0xFFFFFF08#32 := by
  have hretire (u : State) : u.retire.status &&& 0xFFFFFF08#32 = u.status &&& 0xFFFFFF08#32 := by
    rw [State.retire_status]
    split
    · exact putBit_reserved _ (by decide) _
    · rfl
  cases exec_next i s t h with
  | held | ldSetOutput | edSetRowOutput | edSetColOutput | enableChannel | disableChannel => rfl
  | commandFault | illegal | pinConfigFails => exact State.raise_reserved _ _
  | init | setPixel | updateFrame => exact putBit_reserved _ (by decide) _
  | pinWrite | delay | gridWrite | pinConfig => exact hretire _
  | gridClear => rw [hretire, State.clearGrid_status]
  | initDone => rw [hretire]; exact putBit_reserved _ (by decide) _

end

/-- Settles O42: one lemma for each clause. -/
theorem writersOfStatus : Obligations.WritersOfStatus := by
  intro i s t h
  refine ⟨exec_initialized h, ?initDone, exec_faulted_stays h, fun _ => exec_faultCode_of_no_fault h,
    exec_faulted_cases h, fun hs ht => ?rises, fun w hd hb hf => ?_, exec_busy_falls h, fun w hd hseq => ?_,
    exec_reserved h⟩
  case initDone =>
    rintro rfl
    rw [exec_initDone] at h
    cases h
    simp
  case rises =>
    obtain ⟨hseq, hi⟩ := exec_busy_rises h hs ht
    exact ⟨hseq, isCommand_eq_true_iff.mp hi⟩
  · exact exec_command_busy h (decodeCmd_isCommand hd) ((ready_iff s).mpr ⟨hb, hf⟩)
  · rw [exec_uop_busy h (decodeUop_isCommand w i hd), if_pos hseq]

end Sys2Proof.Machine
end

section
/-!
PROOFS. The acts of a queue: what each word of a queue expands to and which acts it performs (20_memory.md R49,
30_encoding.md R60), for plain words, and the acts of a pixel sequence (43_display_controller.md R91).
-/

namespace Sys2Proof.Machine

/-! ### Expansion of each word -/

section
variable (b : Build)

@[simp] theorem expandWord_wordPinWrite (k : BitVec 4) (v : Bool) :
    expandWord b (wordPinWrite k v) = [wordPinWrite k v] := by simp [expandWord]

@[simp] theorem expandWord_wordLdSetOutput (d : Decoder) (p : BitVec 4) :
    expandWord b (wordLdSetOutput d p) = ldExpansion b d p := by simp [expandWord]

@[simp] theorem expandWord_wordEdSetRowOutput (g : BitVec 2) (p : BitVec 4) :
    expandWord b (wordEdSetRowOutput g p) = edRowExpansion g p := by simp [expandWord]

@[simp] theorem expandWord_wordEdSetColOutput (g : BitVec 2) (p : BitVec 4) :
    expandWord b (wordEdSetColOutput g p) = edColExpansion g p := by simp [expandWord]

theorem expandWord_wordEnableChannel {cc : BitVec 2} {k : BitVec 4} (hk : channelLine cc = some k) :
    expandWord b (wordEnableChannel cc) = [wordPinWrite k true] := by simp [expandWord, hk]

theorem expandWord_wordDisableChannel {cc : BitVec 2} {k : BitVec 4} (hk : channelLine cc = some k) :
    expandWord b (wordDisableChannel cc) = [wordPinWrite k false] := by simp [expandWord, hk]

@[simp] theorem expandWord_wordDelay (tt : BitVec 2) : expandWord b (wordDelay tt) = [wordDelay tt] := by
  simp [expandWord]

@[simp] theorem expandWord_wordGridWrite (r c : BitVec 5) (v : Bool) :
    expandWord b (wordGridWrite r c v) = [wordGridWrite r c v] := by simp [expandWord]

@[simp] theorem expandWord_wordPinConfig : expandWord b wordPinConfig = [wordPinConfig] := by simp [expandWord]

@[simp] theorem expandWord_wordGridClear : expandWord b wordGridClear = [wordGridClear] := by simp [expandWord]

@[simp] theorem expandWord_wordInitDone : expandWord b wordInitDone = [wordInitDone] := by simp [expandWord]

end

/-! ### The acts of each primitive word -/

@[simp] theorem wordAct?_wordPinWrite (k : BitVec 4) (v : Bool) :
    wordAct? (wordPinWrite k v) = some (.write k.toNat v) := by simp [wordAct?]

@[simp] theorem wordAct?_wordDelay (tt : BitVec 2) :
    wordAct? (wordDelay tt) = (delayKindOf tt).map Act.wait := by simp [wordAct?]

@[simp] theorem wordAct?_wordGridWrite (r c : BitVec 5) (v : Bool) : wordAct? (wordGridWrite r c v) = none := by
  simp [wordAct?]

@[simp] theorem wordAct?_wordPinConfig : wordAct? wordPinConfig = none := by simp [wordAct?]

@[simp] theorem wordAct?_wordGridClear : wordAct? wordGridClear = none := by simp [wordAct?]

@[simp] theorem wordAct?_wordInitDone : wordAct? wordInitDone = none := by simp [wordAct?]

/-! ### The acts of a queue -/

/-- The acts a queue of words will perform. -/
def queueActs (b : Build) (ws : List UopWord) : List Act := (primitives b ws).filterMap wordAct?

theorem State.actsToCome_eq (s : State) : s.actsToCome = queueActs s.build s.seq := rfl

@[simp] theorem queueActs_nil (b : Build) : queueActs b [] = [] := rfl

theorem queueActs_append (b : Build) (ws us : List UopWord) :
    queueActs b (ws ++ us) = queueActs b ws ++ queueActs b us := by
  simp [queueActs, primitives]

theorem queueActs_cons (b : Build) (w : UopWord) (us : List UopWord) :
    queueActs b (w :: us) = queueActs b [w] ++ queueActs b us :=
  queueActs_append b [w] us

theorem queueActs_singleton (b : Build) (w : UopWord) :
    queueActs b [w] = ((expandWord b w).flatMap (expandWord b)).filterMap wordAct? := by
  simp [queueActs, primitives]

@[simp] theorem queueActs_wordPinWrite (b : Build) (k : BitVec 4) (v : Bool) :
    queueActs b [wordPinWrite k v] = [.write k.toNat v] := by
  simp [queueActs_singleton]

theorem queueActs_wordDelay (b : Build) {tt : BitVec 2} {kind : DelayKind} (hk : delayKindOf tt = some kind) :
    queueActs b [wordDelay tt] = [.wait kind] := by
  simp [queueActs_singleton, hk]

@[simp] theorem queueActs_wordGridWrite (b : Build) (r c : BitVec 5) (v : Bool) :
    queueActs b [wordGridWrite r c v] = [] := by
  simp [queueActs_singleton]

@[simp] theorem queueActs_wordPinConfig (b : Build) : queueActs b [wordPinConfig] = [] := by
  simp [queueActs_singleton]

@[simp] theorem queueActs_wordGridClear (b : Build) : queueActs b [wordGridClear] = [] := by
  simp [queueActs_singleton]

@[simp] theorem queueActs_wordInitDone (b : Build) : queueActs b [wordInitDone] = [] := by
  simp [queueActs_singleton]

/-- A compound word performs what its expansion performs: two rounds of expansion are enough (30 R60). -/
theorem queueActs_ldExpansion (b : Build) (d : Decoder) (p : BitVec 4) :
    queueActs b (ldExpansion b d p) = queueActs b [wordLdSetOutput d p] := by
  cases h : a3Present b d <;> simp [queueActs, primitives, ldExpansion, h]

theorem queueActs_edRowExpansion (b : Build) (g : BitVec 2) (p : BitVec 4) :
    queueActs b (edRowExpansion g p) = queueActs b [wordEdSetRowOutput g p] := by
  cases h : a3Present b .row <;> simp [queueActs, primitives, edRowExpansion, ldExpansion, h]

theorem queueActs_edColExpansion (b : Build) (g : BitVec 2) (p : BitVec 4) :
    queueActs b (edColExpansion g p) = queueActs b [wordEdSetColOutput g p] := by
  cases h : a3Present b .col <;> simp [queueActs, primitives, edColExpansion, ldExpansion, h]

theorem queueActs_wordEnableChannel (b : Build) {cc : BitVec 2} {k : BitVec 4} (hk : channelLine cc = some k) :
    queueActs b [wordEnableChannel cc] = [.write k.toNat true] := by
  simp [queueActs_singleton, expandWord_wordEnableChannel b hk]

theorem queueActs_wordDisableChannel (b : Build) {cc : BitVec 2} {k : BitVec 4} (hk : channelLine cc = some k) :
    queueActs b [wordDisableChannel cc] = [.write k.toNat false] := by
  simp [queueActs_singleton, expandWord_wordDisableChannel b hk]

/-! ### The acts of a pixel sequence -/

theorem getElem_ofNat {n : Nat} (x i : Nat) (h : i < n) : (BitVec.ofNat n x)[i] = x.testBit i := by
  rw [← BitVec.getLsbD_eq_getElem, BitVec.getLsbD_ofNat, decide_eq_true h, Bool.true_and]

/-- The writes of LD_SET_OUTPUT for an output position (40 R68). -/
theorem queueActs_wordLdSetOutput (b : Build) (d : Decoder) (pos : Nat) :
    queueActs b [wordLdSetOutput d (BitVec.ofNat 4 pos)] =
      [.write (decoderLine d 2).val (pos.testBit 2), .write (decoderLine d 1).val (pos.testBit 1),
        .write (decoderLine d 0).val (pos.testBit 0)] ++
      (if a3Present b d then [.write (decoderLine d 3).val (!pos.testBit 3)] else []) := by
  rw [← queueActs_ldExpansion]
  cases d <;> cases h : a3Present b _ <;>
    simp [queueActs, primitives, ldExpansion, h, addressLine, decoderLine, getElem_ofNat]

theorem queueActs_wordEdSetRowOutput (b : Build) (g pos : Nat) :
    queueActs b [wordEdSetRowOutput (BitVec.ofNat 2 g) (BitVec.ofNat 4 pos)] =
      [.write 8 (g.testBit 0), .write 9 (g.testBit 1)] ++ queueActs b [wordLdSetOutput .row (BitVec.ofNat 4 pos)] := by
  rw [← queueActs_edRowExpansion, edRowExpansion, queueActs_cons, queueActs_cons b _ [_]]
  simp [getElem_ofNat]

theorem queueActs_wordEdSetColOutput (b : Build) (g pos : Nat) :
    queueActs b [wordEdSetColOutput (BitVec.ofNat 2 g) (BitVec.ofNat 4 pos)] =
      [.write 10 (g.testBit 0), .write 11 (g.testBit 1)] ++ queueActs b [wordLdSetOutput .col (BitVec.ofNat 4 pos)] := by
  rw [← queueActs_edColExpansion, edColExpansion, queueActs_cons, queueActs_cons b _ [_]]
  simp [getElem_ofNat]

/-- The writes that address group g and output position pos of the rows. -/
def rowActs (b : Build) (g pos : Nat) : List Act :=
  [.write 8 (g.testBit 0), .write 9 (g.testBit 1),
    .write 2 (pos.testBit 2), .write 1 (pos.testBit 1), .write 0 (pos.testBit 0)] ++
  (if b.rowA3 then [.write 3 (!pos.testBit 3)] else [])

/-- The writes that address group g and output position pos of the columns. -/
def colActs (b : Build) (g pos : Nat) : List Act :=
  [.write 10 (g.testBit 0), .write 11 (g.testBit 1),
    .write 6 (pos.testBit 2), .write 5 (pos.testBit 1), .write 4 (pos.testBit 0)] ++
  (if b.colA3 then [.write 7 (!pos.testBit 3)] else [])

/-- The pulse and its waits. -/
def pulseActs : List Act := [.write 13 true, .wait .pulse, .write 13 false, .wait .recovery]

/-- 43 R91: rows before columns, then the pulse. -/
theorem queueActs_pixelSeq (b : Build) (v : Bool) (rc : Nat × Nat) :
    queueActs b (pixelSeq b v rc) =
      rowActs b (groupOf rc.1) (position b (offsetOf rc.1) v) ++
      colActs b (groupOf rc.2) (position b (offsetOf rc.2) v) ++ pulseActs := by
  unfold pixelSeq
  simp only [queueActs_cons b _ (_ :: _), queueActs_wordEdSetRowOutput, queueActs_wordEdSetColOutput,
    queueActs_wordLdSetOutput, queueActs_wordEnableChannel b (cc := 2#2) rfl,
    queueActs_wordDisableChannel b (cc := 2#2) rfl, queueActs_wordDelay b (tt := 0#2) rfl,
    queueActs_wordDelay b (tt := 1#2) rfl, queueActs_wordGridWrite]
  simp [rowActs, colActs, pulseActs, decoderLine, a3Present]

/-- Settles O9: `queueActs_pixelSeq`, whose writes are R91's. -/
theorem pixelSequenceActs : Obligations.PixelSequenceActs := by
  intro b r c v _ _ _
  refine (queueActs_pixelSeq b v (r, c)).trans ?_
  simp [rowActs, colActs, pulseActs, groupOf_eq, offsetOf_eq]

end Sys2Proof.Machine
end

section
/-!
PROOFS. The discipline of the pulse line (70_reset_and_hazards.md R132, 42_timer.md R82, R83): a queue whose acts lead from
`off` to `off` keeps it, and each act moves the phase as it moves the latch of E2.
-/

namespace Sys2Proof.Machine

/-! ### Phases -/

/-- E2 is asserted in this phase. -/
def PulsePhase.On (p : PulsePhase) : Prop := p = .asserted ∨ p = .held

theorem PulsePhase.after_append (p : PulsePhase) (as bs : List Act) :
    p.after (as ++ bs) = (p.after as).bind fun q => q.after bs := by
  induction as generalizing p with
  | nil => rfl
  | cons a as ih =>
    simp only [List.cons_append, PulsePhase.after]
    cases p.next a with
    | none => rfl
    | some q => exact ih q

theorem PulsePhase.after_cons_eq_some {p r : PulsePhase} {a : Act} {as : List Act} :
    p.after (a :: as) = some r ↔ ∃ q, p.next a = some q ∧ q.after as = some r := by
  simp only [PulsePhase.after]
  cases p.next a with
  | none => simp
  | some q => simp

theorem PulsePhase.after_append_eq_some {p r : PulsePhase} {as bs : List Act} :
    p.after (as ++ bs) = some r ↔ ∃ q, p.after as = some q ∧ q.after bs = some r := by
  rw [PulsePhase.after_append, Option.bind_eq_some_iff]

/-- A write moves the phase to one in which E2 is asserted exactly when it asserts E2 or leaves it so. -/
theorem PulsePhase.next_write_on {p q : PulsePhase} {k : Nat} {v : Bool} (h : p.next (.write k v) = some q) :
    q.On ↔ if k = 13 then v = true else p.On := by
  cases p with
  | off =>
    simp only [PulsePhase.next] at h
    split at h <;> cases h <;> simp_all [PulsePhase.On]
  | held =>
    simp only [PulsePhase.next] at h
    split at h <;> cases h
    simp_all [PulsePhase.On]
  | asserted | recovering => cases h

theorem PulsePhase.next_wait_on {p q : PulsePhase} {kind : DelayKind} (h : p.next (.wait kind) = some q) :
    q.On ↔ p.On := by
  cases p <;> cases kind <;> cases h <;> simp [PulsePhase.On]

/-- 70 R132: lines other than E2 are written only while E2 is off. -/
theorem PulsePhase.eq_off_of_next_write {p q : PulsePhase} {k : Nat} {v : Bool} (h : p.next (.write k v) = some q)
    (hk : k ≠ 13) : p = .off := by
  cases p with
  | off => rfl
  | held => simp [PulsePhase.next, hk] at h
  | asserted | recovering => cases h

/-- What may follow the assertion of E2. -/
theorem PulsePhase.after_asserted {as : List Act} (h : PulsePhase.asserted.after as = some .off) :
    ∃ rest, as = .wait .pulse :: rest ∧ PulsePhase.held.after rest = some .off := by
  cases as with
  | nil => cases h
  | cons a rest =>
    obtain ⟨q, hq, hrest⟩ := PulsePhase.after_cons_eq_some.mp h
    cases a with
    | write => cases hq
    | wait kind =>
      cases kind with
      | pulse => cases hq; exact ⟨rest, rfl, hrest⟩
      | recovery | settle => cases hq

/-- What may follow the pulse wait. -/
theorem PulsePhase.after_held {as : List Act} (h : PulsePhase.held.after as = some .off) :
    ∃ rest, as = .write 13 false :: rest := by
  cases as with
  | nil => cases h
  | cons a rest =>
    obtain ⟨q, hq, -⟩ := PulsePhase.after_cons_eq_some.mp h
    cases a with
    | wait => cases hq
    | write k v =>
      simp only [PulsePhase.next] at hq
      split at hq
      next hkv => exact ⟨rest, by rw [hkv.1, hkv.2]⟩
      next => cases hq

/-! ### The discipline by the phase the core is in -/

/-- The core's phase, what is still to come from it, and the latch of E2. -/
theorem State.pulseDisciplined_iff (s : State) :
    s.PulseDisciplined ↔ ∃ p, PulsePhase.off.after s.actsDone = some p ∧ p.after s.actsToCome = some .off ∧
      (p.On ↔ s.pinOut[13] = some true) := by
  rw [State.PulseDisciplined, State.acts, PulsePhase.after_append_eq_some]
  refine ⟨?_, ?_⟩
  · rintro ⟨⟨p, hp, hcome⟩, p', hp', hon⟩
    obtain rfl : p = p' := Option.some.inj (hp.symm.trans hp')
    exact ⟨p, hp, hcome, hon⟩
  · rintro ⟨p, hp, hcome, hon⟩
    exact ⟨⟨p, hp, hcome⟩, p, hp, hon⟩

/-- The discipline depends on the acts and the latch of E2 only. -/
theorem State.PulseDisciplined.congr {s t : State} (h : s.PulseDisciplined) (hdone : t.actsDone = s.actsDone)
    (hcome : t.actsToCome = s.actsToCome) (hout : t.pinOut = s.pinOut) : t.PulseDisciplined := by
  simpa only [State.PulseDisciplined, State.acts, hdone, hcome, hout] using h

theorem State.actsToCome_of_seq_nil {s : State} (hseq : s.seq = []) : s.actsToCome = [] := by
  rw [State.actsToCome_eq, hseq, queueActs_nil]

/-- With nothing queued the last pulse has recovered. -/
theorem State.PulseDisciplined.off_of_seq_nil {s : State} (h : s.PulseDisciplined) (hseq : s.seq = []) :
    PulsePhase.off.after s.actsDone = some .off := by
  obtain ⟨hacts, -⟩ := h
  rwa [State.acts, State.actsToCome_of_seq_nil hseq, List.append_nil] at hacts

/-- From the phase `off` any queue that leads back to it may be begun, the empty one included. -/
theorem State.PulseDisciplined.of_queue {s t : State} (h : s.PulseDisciplined)
    (hoff : PulsePhase.off.after s.actsDone = some .off) (hdone : t.actsDone = s.actsDone) (hout : t.pinOut = s.pinOut)
    (hqueue : PulsePhase.off.after t.actsToCome = some .off) : t.PulseDisciplined := by
  obtain ⟨p, hp, -, hon⟩ := s.pulseDisciplined_iff.mp h
  obtain rfl : p = .off := Option.some.inj (hp.symm.trans hoff)
  refine t.pulseDisciplined_iff.mpr ⟨.off, by rw [hdone, hoff], hqueue, ?_⟩
  rw [hout]
  exact hon

/-- The head of the acts to come is performed: a write of its line, or a wait. -/
theorem State.PulseDisciplined.write {s t : State} (h : s.PulseDisciplined) {line : Line} {v : Bool} {rest : List Act}
    (hcome : s.actsToCome = .write line.val v :: rest) (hdone : t.actsDone = s.actsDone ++ [.write line.val v])
    (hcome' : t.actsToCome = rest) (hout : t.pinOut = s.pinOut.set line.val (some v)) : t.PulseDisciplined := by
  obtain ⟨p, hp, hafter, hon⟩ := s.pulseDisciplined_iff.mp h
  rw [hcome, PulsePhase.after_cons_eq_some] at hafter
  obtain ⟨q, hq, hrest⟩ := hafter
  refine t.pulseDisciplined_iff.mpr ⟨q, ?_, by rw [hcome', hrest], ?_⟩
  · rw [hdone, PulsePhase.after_append_eq_some]
    exact ⟨p, hp, PulsePhase.after_cons_eq_some.mpr ⟨q, hq, rfl⟩⟩
  · rw [PulsePhase.next_write_on hq, hout, Vector.getElem_set]
    split <;> simp [hon]

theorem State.PulseDisciplined.wait {s t : State} (h : s.PulseDisciplined) {kind : DelayKind} {rest : List Act}
    (hcome : s.actsToCome = .wait kind :: rest) (hdone : t.actsDone = s.actsDone ++ [.wait kind])
    (hcome' : t.actsToCome = rest) (hout : t.pinOut = s.pinOut) : t.PulseDisciplined := by
  obtain ⟨p, hp, hafter, hon⟩ := s.pulseDisciplined_iff.mp h
  rw [hcome, PulsePhase.after_cons_eq_some] at hafter
  obtain ⟨q, hq, hrest⟩ := hafter
  refine t.pulseDisciplined_iff.mpr ⟨q, ?_, by rw [hcome', hrest], ?_⟩
  · rw [hdone, PulsePhase.after_append_eq_some]
    exact ⟨p, hp, PulsePhase.after_cons_eq_some.mpr ⟨q, hq, rfl⟩⟩
  · rw [PulsePhase.next_wait_on hq, hout, hon]

/-! ### Queues that keep it -/

/-- A pixel sequence is one whole pulse (43 R91). -/
theorem after_queueActs_pixelSeq (b : Build) (v : Bool) (rc : Nat × Nat) :
    PulsePhase.off.after (queueActs b (pixelSeq b v rc)) = some .off := by
  rw [queueActs_pixelSeq]
  cases hrow : b.rowA3 <;> cases hcol : b.colA3 <;>
    simp [rowActs, colActs, pulseActs, hrow, hcol, PulsePhase.after, PulsePhase.next]

theorem after_queueActs_flatMap {α : Type} (b : Build) (f : α → List UopWord)
    (hf : ∀ x, PulsePhase.off.after (queueActs b (f x)) = some .off) (l : List α) :
    PulsePhase.off.after (queueActs b (l.flatMap f)) = some .off := by
  induction l with
  | nil => rfl
  | cons x l ih =>
    rw [List.flatMap_cons, queueActs_append, PulsePhase.after_append_eq_some]
    exact ⟨.off, hf x, ih⟩

theorem after_queueActs_sweepSeq (s : State) (ds : List (Nat × Nat)) :
    PulsePhase.off.after (queueActs s.build (s.sweepSeq ds)) = some .off :=
  after_queueActs_flatMap s.build _ (fun rc => after_queueActs_pixelSeq s.build _ rc) _

/-- The part of INIT's expansion between GRID_CLEAR and INIT_DONE (44 R108). -/
def startupWords (b : Build) : List UopWord :=
  [wordEnableChannel 1#2, wordDisableChannel 2#2, wordDelay 2#2] ++
    (if b.startupClear then (cells b).flatMap (pixelSeq b false) else [])

theorem initSeq_eq_cons (b : Build) :
    initSeq b = wordPinConfig :: wordGridClear :: (startupWords b ++ [wordInitDone]) := by
  simp [initSeq, startupWords]

/-- The acts of the startup clear. -/
def clearActs (b : Build) : List Act :=
  if b.startupClear then queueActs b ((cells b).flatMap (pixelSeq b false)) else []

theorem queueActs_startupWords (b : Build) :
    queueActs b (startupWords b) = [.write 12 true, .write 13 false, .wait .settle] ++ clearActs b := by
  rw [startupWords, queueActs_append, queueActs_cons, queueActs_cons b _ [_], queueActs_wordEnableChannel b rfl,
    queueActs_wordDisableChannel b rfl, queueActs_wordDelay b rfl, clearActs]
  split <;> rfl

theorem after_queueActs_startupWords (b : Build) :
    PulsePhase.off.after (queueActs b (startupWords b)) = some .off := by
  rw [queueActs_startupWords, PulsePhase.after_append_eq_some]
  refine ⟨.off, rfl, ?_⟩
  unfold clearActs
  split
  · exact after_queueActs_flatMap b _ (after_queueActs_pixelSeq b false) _
  · rfl

theorem queueActs_initSeq (b : Build) : queueActs b (initSeq b) = queueActs b (startupWords b) := by
  rw [initSeq_eq_cons, queueActs_cons, queueActs_cons b _ (_ ++ _), queueActs_append]
  simp

theorem after_queueActs_initSeq (b : Build) : PulsePhase.off.after (queueActs b (initSeq b)) = some .off := by
  rw [queueActs_initSeq]
  exact after_queueActs_startupWords b

end Sys2Proof.Machine
end

section
/-!
PROOFS. Plain words, the words between the stages of INIT: which they are, the one operation each performs, and what that
operation leaves of the state (30_encoding.md R59, R60, 20_memory.md R49).
-/

namespace Sys2Proof.Machine

/-! ### The plain words -/

/-- A plain word, with the legality of its fields. -/
inductive PlainWord (b : Build) : UopWord → Prop where
  | pinWrite (k : BitVec 4) (v : Bool) (line : Line) (hk : lineOf b k = some line) : PlainWord b (wordPinWrite k v)
  | ldSetOutput (d : Decoder) (p : BitVec 4) : PlainWord b (wordLdSetOutput d p)
  | edSetRowOutput (g : BitVec 2) (p : BitVec 4) : PlainWord b (wordEdSetRowOutput g p)
  | edSetColOutput (g : BitVec 2) (p : BitVec 4) : PlainWord b (wordEdSetColOutput g p)
  | enableChannel (cc : BitVec 2) (k : BitVec 4) (hk : channelLine cc = some k) : PlainWord b (wordEnableChannel cc)
  | disableChannel (cc : BitVec 2) (k : BitVec 4) (hk : channelLine cc = some k) : PlainWord b (wordDisableChannel cc)
  | delay (tt : BitVec 2) (kind : DelayKind) (hk : delayKindOf tt = some kind) : PlainWord b (wordDelay tt)
  | gridWrite (r c : BitVec 5) (v : Bool) (hin : inGrid b r.toNat c.toNat = true) : PlainWord b (wordGridWrite r c v)

theorem plainWord_iff {b : Build} {w : UopWord} : plainWord b w = true ↔ PlainWord b w := by
  refine ⟨fun h => ?_, fun h => ?_⟩
  · unfold plainWord at h
    cases hd : decodeUop w with
    | error e => simp [hd] at h
    | ok i =>
      have hw := encode_of_decodeUop hd
      simp only [hd] at h
      cases i with
      | init | setPixel | updateFrame => cases hw
      | pinConfig | gridClear | initDone => cases h
      | pinWrite k v =>
        cases hw
        obtain ⟨line, hk⟩ := Option.isSome_iff_exists.mp ((wellFormed_pinWrite b k v).symm.trans h)
        exact .pinWrite k v line hk
      | ldSetOutput d p => cases hw; exact .ldSetOutput d p
      | edSetRowOutput g p => cases hw; exact .edSetRowOutput g p
      | edSetColOutput g p => cases hw; exact .edSetColOutput g p
      | enableChannel cc =>
        cases hw
        obtain ⟨k, hk⟩ := Option.isSome_iff_exists.mp ((wellFormed_enableChannel b cc).symm.trans h)
        exact .enableChannel cc k hk
      | disableChannel cc =>
        cases hw
        obtain ⟨k, hk⟩ := Option.isSome_iff_exists.mp ((wellFormed_disableChannel b cc).symm.trans h)
        exact .disableChannel cc k hk
      | delay tt =>
        cases hw
        obtain ⟨kind, hk⟩ := Option.isSome_iff_exists.mp ((wellFormed_delay b tt).symm.trans h)
        exact .delay tt kind hk
      | gridWrite r c v => cases hw; exact .gridWrite r c v h
  · cases h with
    | pinWrite k v line hk => simp [plainWord, wellFormed_pinWrite, hk]
    | ldSetOutput | edSetRowOutput | edSetColOutput => simp [plainWord, WellFormed]
    | enableChannel cc k hk => simp [plainWord, wellFormed_enableChannel, hk]
    | disableChannel cc k hk => simp [plainWord, wellFormed_disableChannel, hk]
    | delay tt kind hk => simp [plainWord, wellFormed_delay, hk]
    | gridWrite r c v hin => simp [plainWord, wellFormed_gridWrite, hin]

/-- Every word of the queue is plain. -/
def PlainWords (b : Build) (ws : List UopWord) : Prop := ∀ w ∈ ws, PlainWord b w

theorem PlainWords.cons {b : Build} {w : UopWord} {ws : List UopWord} (hw : PlainWord b w) (hws : PlainWords b ws) :
    PlainWords b (w :: ws) :=
  List.forall_mem_cons.mpr ⟨hw, hws⟩

theorem PlainWords.nil (b : Build) : PlainWords b [] := List.forall_mem_nil _

theorem PlainWords.append {b : Build} {ws us : List UopWord} (hws : PlainWords b ws) (hus : PlainWords b us) :
    PlainWords b (ws ++ us) :=
  List.forall_mem_append.mpr ⟨hws, hus⟩

/-- The write of a line of a decoder, A3 only where it is present, is plain (30 R59). -/
theorem lineOf_addressLine (b : Build) (d : Decoder) {i : Nat} (hi : i < 4) (ha3 : i = 3 → a3Present b d = true) :
    ∃ line, lineOf b (addressLine d i) = some line := by
  rw [← Option.isSome_iff_exists, ← wellFormed_pinWrite b _ false]
  cases d <;> interval_cases i <;> simp_all [WellFormed, addressLine, a3Present]

theorem plainWords_ldExpansion (b : Build) (d : Decoder) (p : BitVec 4) : PlainWords b (ldExpansion b d p) := by
  have hline {i : Nat} (v : Bool) (hi : i < 4) (ha3 : i = 3 → a3Present b d = true) :
      PlainWord b (wordPinWrite (addressLine d i) v) := by
    obtain ⟨line, hk⟩ := lineOf_addressLine b d hi ha3
    exact .pinWrite _ v line hk
  unfold ldExpansion
  refine .append (.cons (hline _ ?_ ?_) (.cons (hline _ ?_ ?_) (.cons (hline _ ?_ ?_) (.nil b)))) ?_
  case refine_7 =>
    split
    next ha3 => exact .cons (hline _ (by decide) fun _ => ha3) (.nil b)
    next => exact .nil b
  all_goals simp

theorem plainWord_of_group_line (b : Build) {k : BitVec 4} (v : Bool) (hk : 8 ≤ k.toNat) (hk' : k.toNat ≤ 13) :
    PlainWord b (wordPinWrite k v) := by
  refine .pinWrite k v ⟨k.toNat, by omega⟩ ((lineOf_eq_some b k _).mpr ⟨rfl, ?_⟩)
  have h3 : (⟨k.toNat, by omega⟩ : Line) ≠ 3 := by simp [Fin.ext_iff]; omega
  have h7 : (⟨k.toNat, by omega⟩ : Line) ≠ 7 := by simp [Fin.ext_iff]; omega
  simp [Build.present, h3, h7]

theorem plainWords_edRowExpansion (b : Build) (g : BitVec 2) (p : BitVec 4) : PlainWords b (edRowExpansion g p) :=
  .cons (plainWord_of_group_line b _ (by decide) (by decide))
    (.cons (plainWord_of_group_line b _ (by decide) (by decide)) (.cons (.ldSetOutput .row p) (.nil b)))

theorem plainWords_edColExpansion (b : Build) (g : BitVec 2) (p : BitVec 4) : PlainWords b (edColExpansion g p) :=
  .cons (plainWord_of_group_line b _ (by decide) (by decide))
    (.cons (plainWord_of_group_line b _ (by decide) (by decide)) (.cons (.ldSetOutput .col p) (.nil b)))

theorem plainWord_of_channelLine (b : Build) {cc : BitVec 2} {k : BitVec 4} (v : Bool) (hk : channelLine cc = some k) :
    PlainWord b (wordPinWrite k v) := by
  unfold channelLine at hk
  split_ifs at hk <;> cases hk <;> exact plainWord_of_group_line b v (by decide) (by decide)

theorem ofNat_toNat_of_lt {n x : Nat} (h : x < 2 ^ n) : (BitVec.ofNat n x).toNat = x := by
  rw [BitVec.toNat_ofNat, Nat.mod_eq_of_lt h]

/-- 43 R90: the words of a pixel of the grid are legal. -/
theorem plainWords_pixelSeq {b : Build} (hb : b.Legal) (v : Bool) {rc : Nat × Nat} (hin : inGrid b rc.1 rc.2 = true) :
    PlainWords b (pixelSeq b v rc) := by
  obtain ⟨hr, hc⟩ := (inGrid_eq_true_iff _ _ _).mp hin
  obtain ⟨hr28, hc28⟩ := hb.cell_lt hr hc
  have hcell : inGrid b (BitVec.ofNat 5 rc.1).toNat (BitVec.ofNat 5 rc.2).toNat = true := by
    rwa [ofNat_toNat_of_lt (by omega), ofNat_toNat_of_lt (by omega)]
  exact .cons (.edSetRowOutput _ _) (.cons (.edSetColOutput _ _) (.cons (.enableChannel _ 13#4 rfl)
    (.cons (.delay _ .pulse rfl) (.cons (.disableChannel _ 13#4 rfl) (.cons (.delay _ .recovery rfl)
      (.cons (.gridWrite _ _ v hcell) (.nil b)))))))

theorem plainWords_flatMap {α : Type} {b : Build} {f : α → List UopWord} {l : List α}
    (hf : ∀ x ∈ l, PlainWords b (f x)) : PlainWords b (l.flatMap f) := by
  intro w hw
  obtain ⟨x, hx, hwx⟩ := List.mem_flatMap.mp hw
  exact hf x hx w hwx

theorem plainWords_startupWords {b : Build} (hb : b.Legal) : PlainWords b (startupWords b) := by
  refine .append (.cons (.enableChannel _ 12#4 rfl) (.cons (.disableChannel _ 13#4 rfl)
    (.cons (.delay _ .settle rfl) (.nil b)))) ?_
  split
  · exact plainWords_flatMap fun rc hrc => plainWords_pixelSeq hb false ((mem_cells b rc.1 rc.2).mp hrc)
  · exact .nil b

/-! ### The operation of a plain word -/

/-- The write of the grid a word performs, if it has one: the cell and its value. -/
def wordWrite? (w : UopWord) : Option ((Nat × Nat) × Bool) :=
  match decodeUop w with
  | .ok (.gridWrite r c v) => some ((r.toNat, c.toNat), v)
  | _ => none

/-- The writes of the grid that a queue of words will perform. -/
def queueWrites (ws : List UopWord) : List ((Nat × Nat) × Bool) := ws.filterMap wordWrite?

theorem queueWrites_append (ws us : List UopWord) : queueWrites (ws ++ us) = queueWrites ws ++ queueWrites us :=
  List.filterMap_append

@[simp] theorem wordWrite?_wordPinWrite (k : BitVec 4) (v : Bool) : wordWrite? (wordPinWrite k v) = none := by
  simp [wordWrite?]

@[simp] theorem wordWrite?_wordLdSetOutput (d : Decoder) (p : BitVec 4) : wordWrite? (wordLdSetOutput d p) = none := by
  simp [wordWrite?]

@[simp] theorem wordWrite?_wordEdSetRowOutput (g : BitVec 2) (p : BitVec 4) :
    wordWrite? (wordEdSetRowOutput g p) = none := by simp [wordWrite?]

@[simp] theorem wordWrite?_wordEdSetColOutput (g : BitVec 2) (p : BitVec 4) :
    wordWrite? (wordEdSetColOutput g p) = none := by simp [wordWrite?]

@[simp] theorem wordWrite?_wordEnableChannel (cc : BitVec 2) : wordWrite? (wordEnableChannel cc) = none := by
  simp [wordWrite?]

@[simp] theorem wordWrite?_wordDisableChannel (cc : BitVec 2) : wordWrite? (wordDisableChannel cc) = none := by
  simp [wordWrite?]

@[simp] theorem wordWrite?_wordDelay (tt : BitVec 2) : wordWrite? (wordDelay tt) = none := by simp [wordWrite?]

@[simp] theorem wordWrite?_wordGridWrite (r c : BitVec 5) (v : Bool) :
    wordWrite? (wordGridWrite r c v) = some ((r.toNat, c.toNat), v) := by simp [wordWrite?]

/-- The steps LD_SET_OUTPUT takes on a decoder, its expansion included. -/
def ldSteps (b : Build) (d : Decoder) : Nat := if a3Present b d then 5 else 4

/-- The steps a plain word takes, those of its expansion included. -/
def wordSteps (b : Build) (w : UopWord) : Nat :=
  match decodeUop w with
  | .ok (.ldSetOutput d _) => ldSteps b d
  | .ok (.edSetRowOutput _ _) => ldSteps b .row + 3
  | .ok (.edSetColOutput _ _) => ldSteps b .col + 3
  | .ok (.enableChannel _) => 2
  | .ok (.disableChannel _) => 2
  | _ => 1

/-- The steps a queue of plain words takes. -/
def queueSteps (b : Build) (ws : List UopWord) : Nat := (ws.map (wordSteps b)).sum

theorem queueSteps_append (b : Build) (ws us : List UopWord) :
    queueSteps b (ws ++ us) = queueSteps b ws + queueSteps b us := by
  simp [queueSteps]

section
variable (b : Build)

@[simp] theorem wordSteps_wordPinWrite (k : BitVec 4) (v : Bool) : wordSteps b (wordPinWrite k v) = 1 := by
  simp [wordSteps]

@[simp] theorem wordSteps_wordLdSetOutput (d : Decoder) (p : BitVec 4) :
    wordSteps b (wordLdSetOutput d p) = ldSteps b d := by simp [wordSteps]

@[simp] theorem wordSteps_wordEdSetRowOutput (g : BitVec 2) (p : BitVec 4) :
    wordSteps b (wordEdSetRowOutput g p) = ldSteps b .row + 3 := by simp [wordSteps]

@[simp] theorem wordSteps_wordEdSetColOutput (g : BitVec 2) (p : BitVec 4) :
    wordSteps b (wordEdSetColOutput g p) = ldSteps b .col + 3 := by simp [wordSteps]

@[simp] theorem wordSteps_wordEnableChannel (cc : BitVec 2) : wordSteps b (wordEnableChannel cc) = 2 := by
  simp [wordSteps]

@[simp] theorem wordSteps_wordDisableChannel (cc : BitVec 2) : wordSteps b (wordDisableChannel cc) = 2 := by
  simp [wordSteps]

@[simp] theorem wordSteps_wordDelay (tt : BitVec 2) : wordSteps b (wordDelay tt) = 1 := by simp [wordSteps]

@[simp] theorem wordSteps_wordGridWrite (r c : BitVec 5) (v : Bool) : wordSteps b (wordGridWrite r c v) = 1 := by
  simp [wordSteps]

theorem queueSteps_ldExpansion (d : Decoder) (p : BitVec 4) : queueSteps b (ldExpansion b d p) + 1 = ldSteps b d := by
  cases h : a3Present b d <;> simp [ldExpansion, queueSteps, ldSteps, h]

theorem queueSteps_edRowExpansion (g : BitVec 2) (p : BitVec 4) :
    queueSteps b (edRowExpansion g p) + 1 = ldSteps b .row + 3 := by
  simp [edRowExpansion, queueSteps]
  omega

theorem queueSteps_edColExpansion (g : BitVec 2) (p : BitVec 4) :
    queueSteps b (edColExpansion g p) + 1 = ldSteps b .col + 3 := by
  simp [edColExpansion, queueSteps]
  omega

end

/-- The next state of a plain word w at the head of `SEQ`, as one operation: the write of a line, a wait, the write of a
cell, or the expansion into words that perform what w stands for. -/
inductive PlainNext (w : UopWord) (s : State) : State → Prop where
  | write (line : Line) (v : Bool) (hp : s.build.present line = true)
      (hacts : queueActs s.build [w] = [.write line.val v]) (hwrites : queueWrites [w] = [])
      (hsteps : wordSteps s.build w = 1) :
      PlainNext w s (State.pinWrite line v s).retire
  | wait (kind : DelayKind) (hacts : queueActs s.build [w] = [.wait kind]) (hwrites : queueWrites [w] = [])
      (hsteps : wordSteps s.build w = 1) : PlainNext w s (State.waited kind s).retire
  | cell (r c : Nat) (v : Bool) (hin : inGrid s.build r c = true) (hacts : queueActs s.build [w] = [])
      (hwrites : queueWrites [w] = [((r, c), v)]) (hsteps : wordSteps s.build w = 1) :
      PlainNext w s (State.gridWrite r c v s).retire
  | expand (e : List UopWord) (hne : e ≠ []) (hplain : PlainWords s.build e)
      (hacts : queueActs s.build [w] = queueActs s.build e) (hwrites : queueWrites [w] = queueWrites e)
      (hsteps : queueSteps s.build e + 1 = wordSteps s.build w) :
      PlainNext w s (State.expand e s)

theorem queueWrites_ldExpansion (b : Build) (d : Decoder) (p : BitVec 4) : queueWrites (ldExpansion b d p) = [] := by
  cases h : a3Present b d <;> simp [ldExpansion, queueWrites, h]

theorem queueWrites_edRowExpansion (g : BitVec 2) (p : BitVec 4) : queueWrites (edRowExpansion g p) = [] := by
  simp [edRowExpansion, queueWrites]

theorem queueWrites_edColExpansion (g : BitVec 2) (p : BitVec 4) : queueWrites (edColExpansion g p) = [] := by
  simp [edColExpansion, queueWrites]

theorem performUop_ok {w : UopWord} {i : Instr} (s : State) (h : decodeUop w = .ok i) :
    performWord (.uop w) s = exec i s :=
  performWord_ok (.uop w) i s h

/-- What performing a plain word answers: it is refused only for a line that is not configured (40 R63). -/
theorem performWord_plain {s : State} {w : UopWord} (hw : PlainWord s.build w) :
    (∃ t, performWord (.uop w) s = .next t ∧ PlainNext w s t) ∨
    (∃ line : Line, s.build.present line = true ∧ s.pinCfg[line.val] = false ∧
      performWord (.uop w) s = .refused .unconfiguredLine) := by
  cases hw with
  | pinWrite k v line hk =>
    rw [performUop_ok s (decodeUop_wordPinWrite k v)]
    obtain ⟨hval, hp⟩ := (lineOf_eq_some _ _ _).mp hk
    cases hc : s.pinCfg[line.val] with
    | false => exact .inr ⟨line, hp, hc, exec_pinWrite_of_unconfigured v hk hc⟩
    | true =>
      exact .inl ⟨_, exec_pinWrite_of_configured v hk hc,
        .write line v hp (by simp [hval]) (by simp [queueWrites]) (by simp)⟩
  | ldSetOutput d p =>
    rw [performUop_ok s (decodeUop_wordLdSetOutput d p)]
    exact .inl ⟨_, exec_ldSetOutput d p s, .expand _ (ldExpansion_ne_nil _ _ _) (plainWords_ldExpansion _ d p)
      (queueActs_ldExpansion _ d p).symm (by rw [queueWrites_ldExpansion]; simp [queueWrites])
      (by rw [queueSteps_ldExpansion, wordSteps_wordLdSetOutput])⟩
  | edSetRowOutput g p =>
    rw [performUop_ok s (decodeUop_wordEdSetRowOutput g p)]
    exact .inl ⟨_, exec_edSetRowOutput g p s, .expand _ (by simp [edRowExpansion]) (plainWords_edRowExpansion _ g p)
      (queueActs_edRowExpansion _ g p).symm (by rw [queueWrites_edRowExpansion]; simp [queueWrites])
      (by rw [queueSteps_edRowExpansion, wordSteps_wordEdSetRowOutput])⟩
  | edSetColOutput g p =>
    rw [performUop_ok s (decodeUop_wordEdSetColOutput g p)]
    exact .inl ⟨_, exec_edSetColOutput g p s, .expand _ (by simp [edColExpansion]) (plainWords_edColExpansion _ g p)
      (queueActs_edColExpansion _ g p).symm (by rw [queueWrites_edColExpansion]; simp [queueWrites])
      (by rw [queueSteps_edColExpansion, wordSteps_wordEdSetColOutput])⟩
  | enableChannel cc k hk =>
    rw [performUop_ok s (decodeUop_wordEnableChannel cc), exec_enableChannel, driveChannel, hk]
    exact .inl ⟨_, rfl, .expand _ (by simp) (.cons (plainWord_of_channelLine _ true hk) (.nil _))
      (by rw [queueActs_wordEnableChannel _ hk, queueActs_wordPinWrite]) (by simp [queueWrites]) (by simp [queueSteps])⟩
  | disableChannel cc k hk =>
    rw [performUop_ok s (decodeUop_wordDisableChannel cc), exec_disableChannel, driveChannel, hk]
    exact .inl ⟨_, rfl, .expand _ (by simp) (.cons (plainWord_of_channelLine _ false hk) (.nil _))
      (by rw [queueActs_wordDisableChannel _ hk, queueActs_wordPinWrite]) (by simp [queueWrites]) (by simp [queueSteps])⟩
  | delay tt kind hk =>
    rw [performUop_ok s (decodeUop_wordDelay tt)]
    exact .inl ⟨_, exec_delay_of_kind s hk,
      .wait kind (queueActs_wordDelay _ hk) (by simp [queueWrites]) (by simp)⟩
  | gridWrite r c v hin =>
    rw [performUop_ok s (decodeUop_wordGridWrite r c v)]
    exact .inl ⟨_, exec_gridWrite_of_inside v hin,
      .cell r.toNat c.toNat v hin (queueActs_wordGridWrite _ r c v) (by simp [queueWrites]) (by simp)⟩

end Sys2Proof.Machine
end

section
/-!
PROOFS. What a plain word makes of the state: the frame, the bits of STATUS, the queue, and the acts and cell writes it
moves from the queue into the trace, the latches and the grid.
-/

namespace Sys2Proof.Machine

/-! ### Latches and cells after a list of acts and writes -/

/-- The latches after one act. -/
def latchAct (out : Vector (Option Bool) 14) : Act → Vector (Option Bool) 14
  | .write k v => if h : k < 14 then out.set k (some v) else out
  | .wait _ => out

/-- The latches after a list of acts. -/
def latchActs (out : Vector (Option Bool) 14) (as : List Act) : Vector (Option Bool) 14 := as.foldl latchAct out

theorem latchActs_append (out : Vector (Option Bool) 14) (as bs : List Act) :
    latchActs out (as ++ bs) = latchActs (latchActs out as) bs :=
  List.foldl_append

@[simp] theorem latchActs_write (out : Vector (Option Bool) 14) (line : Line) (v : Bool) :
    latchActs out [.write line.val v] = out.set line.val (some v) := by
  simp [latchActs, latchAct]

/-- The grid after a list of cell writes. -/
def writeCells (b : Build) (m : Memory) (ws : List ((Nat × Nat) × Bool)) : Memory :=
  ws.foldl (fun m w => m.write (cellNumber b w.1.1 w.1.2) w.2) m

theorem writeCells_append (b : Build) (m : Memory) (ws us : List ((Nat × Nat) × Bool)) :
    writeCells b m (ws ++ us) = writeCells b (writeCells b m ws) us :=
  List.foldl_append

/-- The microseconds the waits among the acts take at least (42 R80). -/
def State.leastUs (s : State) (as : List Act) : Nat :=
  (as.map fun a => match a with
    | .write _ _ => 0
    | .wait kind => s.minimumUs kind).sum

theorem State.leastUs_append (s : State) (as bs : List Act) :
    s.leastUs (as ++ bs) = s.leastUs as + s.leastUs bs := by
  simp [State.leastUs]

theorem elapsedUs_append (es fs : List Event) : elapsedUs (es ++ fs) = elapsedUs es + elapsedUs fs := by
  simp [elapsedUs]

/-! ### Progress -/

/-- The core has performed a part of its queue, and nothing but the lines, the grid, the trace, the queue and BUSY has
changed: the acts of that part are in the trace and on the latches, its cell writes are in the grid, and its waits took
at least their minimum. -/
structure State.Progress (s t : State) : Prop where
  build : t.build = s.build
  pinCfg : t.pinCfg = s.pinCfg
  cfgPulseUs : t.cfgPulseUs = s.cfgPulseUs
  cfgSweep : t.cfgSweep = s.cfgSweep
  cmd : t.cmd = s.cmd
  frame : t.frame = s.frame
  script : t.script = s.script
  status : ∀ j, j ≠ 0 → t.status.getLsbD j = s.status.getLsbD j
  acts : ∃ es, t.trace = s.trace ++ es ∧ s.actsToCome = es.filterMap Event.act? ++ t.actsToCome ∧
    t.pinOut = latchActs s.pinOut (es.filterMap Event.act?) ∧ s.leastUs (es.filterMap Event.act?) ≤ elapsedUs es
  writes : ∃ ws, queueWrites s.seq = ws ++ queueWrites t.seq ∧ t.grid = writeCells s.build s.grid ws

theorem State.Progress.refl (s : State) : s.Progress s :=
  ⟨rfl, rfl, rfl, rfl, rfl, rfl, rfl, fun _ _ => rfl, ⟨[], by simp [latchActs, State.leastUs]⟩, ⟨[], by simp [writeCells]⟩⟩

theorem State.leastUs_congr {s t : State} (hb : t.build = s.build) (hp : t.cfgPulseUs = s.cfgPulseUs) (as : List Act) :
    t.leastUs as = s.leastUs as := by
  have hmin (kind : DelayKind) : t.minimumUs kind = s.minimumUs kind := by cases kind <;> simp [State.minimumUs, hb, hp]
  simp only [State.leastUs, hmin]

theorem State.Progress.trans {s t u : State} (h : s.Progress t) (h' : t.Progress u) : s.Progress u where
  build := h'.build.trans h.build
  pinCfg := h'.pinCfg.trans h.pinCfg
  cfgPulseUs := h'.cfgPulseUs.trans h.cfgPulseUs
  cfgSweep := h'.cfgSweep.trans h.cfgSweep
  cmd := h'.cmd.trans h.cmd
  frame := h'.frame.trans h.frame
  script := h'.script.trans h.script
  status j hj := (h'.status j hj).trans (h.status j hj)
  acts := by
    obtain ⟨es, htrace, hcome, hout, hleast⟩ := h.acts
    obtain ⟨fs, htrace', hcome', hout', hleast'⟩ := h'.acts
    refine ⟨es ++ fs, by rw [htrace', htrace, List.append_assoc], ?_, ?_, ?_⟩
    · rw [hcome, hcome', List.filterMap_append, List.append_assoc]
    · rw [hout', hout, List.filterMap_append, latchActs_append]
    · rw [State.leastUs_congr h.build h.cfgPulseUs] at hleast'
      rw [List.filterMap_append, State.leastUs_append, elapsedUs_append]
      exact Nat.add_le_add hleast hleast'
  writes := by
    obtain ⟨ws, hcome, hgrid⟩ := h.writes
    obtain ⟨us, hcome', hgrid'⟩ := h'.writes
    exact ⟨ws ++ us, by rw [hcome, hcome', List.append_assoc], by rw [hgrid', h.build, hgrid, writeCells_append]⟩

section
variable {s t : State}

theorem State.Progress.faulted (h : s.Progress t) : t.faulted = s.faulted := h.status 2 (by decide)

theorem State.Progress.initialized (h : s.Progress t) : t.initialized = s.initialized := h.status 1 (by decide)

theorem State.Progress.configured (h : s.Progress t) (hc : s.Configured) : t.Configured := by
  intro k hk
  rw [h.pinCfg]
  exact hc k (by rwa [h.build] at hk)

end

/-! ### A plain word makes progress -/

theorem State.retire_status_getLsbD (s : State) {j : Nat} (hj : j ≠ 0) :
    s.retire.status.getLsbD j = s.status.getLsbD j := by
  rw [State.retire_status]
  split
  · rw [putBit_getLsbD _ _ (by decide), if_neg hj]
  · rfl

section
variable {w : UopWord} {us : List UopWord} {s t : State}

theorem PlainNext.progress (h : PlainNext w s t) (hs : s.seq = w :: us) : s.Progress t := by
  have hacts : s.actsToCome = queueActs s.build [w] ++ queueActs s.build us := by
    rw [State.actsToCome_eq, hs, queueActs_cons]
  have hwrites : queueWrites (w :: us) = queueWrites [w] ++ queueWrites us := queueWrites_append [w] us
  cases h with
  | write line v hp ha hw =>
    refine ⟨by simp, by simp, by simp, by simp, by simp, by simp, by simp,
      fun j hj => State.retire_status_getLsbD _ hj, ?_, ?_⟩
    · exact ⟨[.level line s.build.lineId[line.val] v (physicalOf s.build line v)], by simp,
        by simp [hacts, ha, State.actsToCome_eq, hs, Event.act?], by simp [Event.act?], by simp [State.leastUs, Event.act?]⟩
    · exact ⟨[], by simp [hwrites, hw, hs], by simp [writeCells]⟩
  | wait kind ha hw =>
    refine ⟨by simp, by simp, by simp, by simp, by simp, by simp, by simp,
      fun j hj => State.retire_status_getLsbD _ hj, ?_, ?_⟩
    · exact ⟨[.wait kind (s.minimumUs kind) (s.minimumUs kind + Config.freeOverrun s.draws)], by simp,
        by simp [hacts, ha, State.actsToCome_eq, hs, Event.act?], by simp [Event.act?, latchActs, latchAct],
        by simp [State.leastUs, elapsedUs, Event.act?]⟩
    · exact ⟨[], by simp [hwrites, hw, hs], by simp [writeCells]⟩
  | cell r c v hin ha hw =>
    refine ⟨by simp, by simp, by simp, by simp, by simp, by simp, by simp,
      fun j hj => State.retire_status_getLsbD _ hj, ?_, ?_⟩
    · exact ⟨[], by simp, by simp [hacts, ha, State.actsToCome_eq, hs], by simp [latchActs], by simp [State.leastUs]⟩
    · exact ⟨[((r, c), v)], by simp [hwrites, hw, hs], by simp [writeCells]⟩
  | expand e hne hplain ha hw =>
    refine ⟨rfl, rfl, rfl, rfl, rfl, rfl, rfl, fun j hj => rfl, ?_, ?_⟩
    · exact ⟨[], by simp, by simp [hacts, ha, State.actsToCome_eq, hs, queueActs_append], by simp [latchActs],
        by simp [State.leastUs]⟩
    · exact ⟨[], by simp [hwrites, hw, hs, queueWrites_append], by simp [writeCells]⟩

/-- The queue after a plain word: its expansion, plain again and shorter by a step, and the rest. -/
theorem PlainNext.seq (h : PlainNext w s t) (hs : s.seq = w :: us) :
    ∃ e, PlainWords s.build e ∧ t.seq = e ++ us ∧ queueSteps s.build e + 1 = wordSteps s.build w := by
  cases h with
  | write _ _ _ _ _ hsteps | wait _ _ _ hsteps | cell _ _ _ _ _ _ hsteps =>
    exact ⟨[], .nil _, by simp [hs], by simp [hsteps, queueSteps]⟩
  | expand e _ hplain _ _ hsteps => exact ⟨e, hplain, by simp [hs], hsteps⟩

theorem State.gridComplete_gridWrite {r c : Nat} {v : Bool} (hg : s.GridComplete)
    (hin : inGrid s.build r c = true) : (State.gridWrite r c v s).GridComplete := by
  intro r' c' hin'
  by_cases he : (r', c') = (r, c)
  · cases he
    rw [State.gridRead_gridWrite_same s r c v hin]
    rfl
  · rw [State.gridRead_gridWrite_other s r c r' c' v hin he]
    exact hg r' c' hin'

theorem State.GridComplete.congr (h : s.GridComplete) (hb : t.build = s.build) (hg : t.grid = s.grid) :
    t.GridComplete := by
  intro r c hin
  rw [State.gridRead_congr s t hb hg]
  exact h r c (by rwa [hb] at hin)

theorem PlainNext.gridComplete (h : PlainNext w s t) (hg : s.GridComplete) : t.GridComplete := by
  cases h with
  | write | wait | expand => exact hg.congr (by simp) (by simp)
  | cell r c v hin => exact (State.gridComplete_gridWrite (v := v) hg hin).congr (by simp) (by simp)

/-- 42 R82, 70 R132: a plain word keeps the discipline of the pulse line. -/
theorem PlainNext.pulse (h : PlainNext w s t) (hs : s.seq = w :: us) (hp : s.PulseDisciplined) : t.PulseDisciplined := by
  have hacts : s.actsToCome = queueActs s.build [w] ++ queueActs s.build us := by
    rw [State.actsToCome_eq, hs, queueActs_cons]
  cases h with
  | write line v _ ha =>
    rw [ha] at hacts
    exact hp.write hacts (by simp [State.actsDone, Event.act?]) (by simp [State.actsToCome_eq, hs]) (by simp)
  | wait kind ha =>
    rw [ha] at hacts
    exact hp.wait hacts (by simp [State.actsDone, Event.act?]) (by simp [State.actsToCome_eq, hs]) (by simp)
  | cell r c v _ ha =>
    rw [ha] at hacts
    exact hp.congr (by simp [State.actsDone]) (by rw [hacts]; simp [State.actsToCome_eq, hs]) (by simp)
  | expand e _ _ ha =>
    exact hp.congr rfl (by rw [hacts, ha]; simp [State.actsToCome_eq, hs, queueActs_append]) rfl

end

/-! ### Every other operation keeps the acts -/

theorem State.Progress.acts_eq {s t : State} (h : s.Progress t) : t.acts = s.acts := by
  obtain ⟨es, htrace, hcome, -⟩ := h.acts
  rw [State.acts, State.acts, hcome, State.actsDone, State.actsDone, htrace, List.filterMap_append, List.append_assoc]

theorem head_eq_of_seq_head? {s : State} {w : UopWord} (h : s.seq.head? = some w) : s.seq = w :: s.seq.tail := by
  cases hs : s.seq with
  | nil => rw [hs] at h; cases h
  | cons w' us => rw [hs] at h; cases h; rfl

/-- A word is plain, or one of the three of INIT's stages. -/
theorem plainWord_of_wellFormed {b : Build} {w : UopWord} {i : Instr} (hd : decodeUop w = .ok i)
    (hwf : WellFormed b i = true) :
    PlainWord b w ∨ (i = .pinConfig ∧ w = wordPinConfig) ∨ (i = .gridClear ∧ w = wordGridClear) ∨
      (i = .initDone ∧ w = wordInitDone) := by
  have hw := encode_of_decodeUop hd
  cases i with
  | init | setPixel | updateFrame => cases hw
  | pinConfig => cases hw; exact .inr (.inl ⟨rfl, rfl⟩)
  | gridClear => cases hw; exact .inr (.inr (.inl ⟨rfl, rfl⟩))
  | initDone => cases hw; exact .inr (.inr (.inr ⟨rfl, rfl⟩))
  | pinWrite | ldSetOutput | edSetRowOutput | edSetColOutput | enableChannel | disableChannel | delay | gridWrite =>
    exact .inl (plainWord_iff.mp (by simp [plainWord, hd, hwf]))

/-- Settles O49: a plain word makes progress, and GRID_CLEAR and INIT_DONE perform no act. -/
theorem performingKeepsTheActs : Obligations.PerformingKeepsTheActs := by
  intro s t w i hhead hd hwf hconfig h
  have hs := head_eq_of_seq_head? hhead
  have hperform : performWord (.uop w) s = .next t := (performUop_ok s hd).trans h
  obtain hplain | ⟨rfl, -⟩ | ⟨rfl, rfl⟩ | ⟨rfl, rfl⟩ := plainWord_of_wellFormed hd hwf
  · obtain ⟨u, hu, hnext⟩ | ⟨line, -, -, hrefused⟩ := performWord_plain hplain
    · cases hu.symm.trans hperform
      exact (hnext.progress hs).acts_eq
    · cases hrefused.symm.trans hperform
  · exact absurd rfl hconfig
  · cases h
    rw [State.acts, State.acts, State.actsToCome_eq, State.actsToCome_eq, hs, queueActs_cons]
    simp [State.actsDone]
  · cases h
    rw [State.acts, State.acts, State.actsToCome_eq, State.actsToCome_eq, hs, queueActs_cons]
    simp [State.actsDone]

end Sys2Proof.Machine
end

section
/-!
PROOFS. The invariant: it holds at reset (10_state.md R37), every instruction and every turn keeps it (10 R27, R32,
30_encoding.md R59, 44_init.md R108, 70_reset_and_hazards.md R132), and what can be read off it.
-/

namespace Sys2Proof.Machine

/-! ### The parts that every instruction keeps -/

section
variable {i : Instr} {s t : State}

theorem exec_grid_wf (h : exec i s = .next t) (hs : s.grid.wf) : t.grid.wf := by
  cases exec_next i s t h with
  | gridWrite r c v => simpa using Memory.write_wf _ _ _ hs
  | gridClear => simpa using s.clearGrid_wf hs
  | _ => simpa using hs

theorem exec_grid_cells (h : exec i s = .next t) (hs : ∀ p ∈ s.grid, p.1 < s.build.height * s.build.width) :
    ∀ p ∈ t.grid, p.1 < t.build.height * t.build.width := by
  cases exec_next i s t h with
  | gridWrite r c v _ hin =>
    simp only [State.retire_grid, State.retire_build, State.gridWrite_build, State.gridWrite_grid]
    intro p hp
    obtain rfl | hp := Memory.mem_write _ _ _ _ hp
    · exact cellNumber_lt _ _ _ hin
    · exact hs p hp
  | gridClear => simpa using s.clearGrid_cells hs
  | _ => simpa using hs

/-- 44 R109, 30 R59: an absent line stays unconfigured and unwritten. -/
theorem exec_absent (h : exec i s = .next t)
    (hs : ∀ k : Line, s.build.present k = false → s.pinCfg[k.val] = false ∧ s.pinOut[k.val] = none) :
    ∀ k : Line, t.build.present k = false → t.pinCfg[k.val] = false ∧ t.pinOut[k.val] = none := by
  intro k hk
  rw [(portsAreTheHosts i s t h).1] at hk
  have hsk := hs k hk
  cases exec_next i s t h with
  | pinWrite _ v line _ _ hp =>
    have hne : line.val ≠ k.val := fun e => by simp [Fin.ext e, hk] at hp
    simp [hsk, Vector.getElem_set_ne _ _ hne]
  | pinConfig | pinConfigFails => simp [hsk, hk]
  | _ => simpa using hsk

/-- 60 R114: a fault is recorded under its number. -/
theorem exec_faultCode_of_fault (h : exec i s = .next t) (hf : s.faulted = false) (ht : t.faulted = true) :
    ∃ c : FaultCode, t.faultCode = c.number := by
  cases exec_next i s t h with
  | commandFault c => exact ⟨c, by simp [hf]⟩
  | illegal => exact ⟨.illegalUop, by simp [hf]⟩
  | pinConfigFails => exact ⟨.pinCfg, by simp [hf]⟩
  | _ => simp [hf] at ht

/-- An instruction keeps the invariant if it keeps BUSY's agreement with SEQ, the stage and the discipline. -/
theorem State.Inv.of_exec (hs : s.Inv) (hf : s.faulted = false) (h : exec i s = .next t)
    (hbusy : t.busy = true ↔ t.seq ≠ []) (hlife : t.Life) (hpulse : t.PulseDisciplined) : t.Inv where
  legal := by rw [(portsAreTheHosts i s t h).1]; exact hs.legal
  gridWf := exec_grid_wf h hs.gridWf
  gridCells := exec_grid_cells h hs.gridCells
  reserved := (exec_reserved h).trans hs.reserved
  noCode ht := (exec_faultCode_of_no_fault h ht).trans (hs.noCode hf)
  code := exec_faultCode_of_fault h hf
  busy := hbusy
  absent := exec_absent h hs.absent
  life := hlife
  pulse := hpulse

end

/-! ### Reset and the ports -/

theorem State.resetOf_inv {b : Build} (hb : b.Legal) : (State.resetOf b).Inv where
  legal := hb
  gridWf := .nil
  gridCells := List.forall_mem_nil _
  reserved := BitVec.zero_and
  noCode _ := by simp [State.faultCode, State.resetOf]
  code hf := by simp at hf
  busy := iff_of_false (by simp) (by simp [State.resetOf])
  absent k _ := ⟨State.resetOf_pinCfg b k, State.resetOf_pinOut b k⟩
  life := .fresh (by simp) (by simp)
    ⟨fun k => ⟨State.resetOf_pinCfg b k, State.resetOf_pinOut b k⟩, rfl, rfl⟩ (.inl rfl)
  pulse := (State.pulseDisciplined_iff _).mpr ⟨.off, rfl, rfl, by simp [PulsePhase.On, State.resetOf]⟩

/-- 00 R13: the default build is legal whatever the GPIO numbers are (log 2). -/
theorem Build.default_legal : Build.default.Legal := by
  refine ⟨by decide, by decide, by decide, by decide, fun k => ?_, fun j k hj hjk => ?_⟩
  · by_cases h3 : k = 3
    · simp [Build.default, Build.present, h3]
    · simp [Build.default, Build.present, h3]
  · by_cases hj3 : j.val = 3
    · simp [Build.default, hj3] at hj
    · by_cases hk3 : k.val = 3
      · simp [Build.default, hk3] at hjk
        exact absurd (Fin.val_eq_of_eq hjk) hj3
      · simpa [Build.default, hj3, hk3, Fin.ext_iff] using hjk

/-- Settles O44: for each legal build, the default one included. -/
theorem invariantHoldsAtReset : Obligations.InvariantHoldsAtReset :=
  ⟨fun _ => State.resetOf_inv, Build.default_legal, State.resetOf_inv Build.default_legal⟩

/-- The invariant does not read the ports, the script, the configuration registers and the count of draws. -/
theorem State.Inv.congr {s t : State} (h : s.Inv) (hbuild : t.build = s.build) (hcfg : t.pinCfg = s.pinCfg)
    (hout : t.pinOut = s.pinOut) (hstatus : t.status = s.status) (hgrid : t.grid = s.grid) (hseq : t.seq = s.seq)
    (htrace : t.trace = s.trace) : t.Inv := by
  have hfaulted : t.faulted = s.faulted := by rw [State.faulted, State.faulted, hstatus]
  have hinit : t.initialized = s.initialized := by rw [State.initialized, State.initialized, hstatus]
  have hfresh : s.Fresh → t.Fresh := by simp only [State.Fresh, hcfg, hout, hgrid, htrace, imp_self]
  have hconf : s.Configured → t.Configured := by simp only [State.Configured, hcfg, hbuild, imp_self]
  have hcomplete : s.GridComplete → t.GridComplete := fun hg => hg.congr hbuild hgrid
  refine ⟨by rw [hbuild]; exact h.legal, by rw [hgrid]; exact h.gridWf, by rw [hgrid, hbuild]; exact h.gridCells,
    by rw [hstatus]; exact h.reserved, ?_, ?_, ?_, by rw [hbuild, hcfg, hout]; exact h.absent, ?_, ?_⟩
  · rw [hfaulted, State.faultCode, hstatus]
    exact h.noCode
  · rw [hfaulted, State.faultCode, hstatus]
    exact h.code
  · rw [State.busy, hstatus, hseq]
    exact h.busy
  · cases h.life with
    | stopped hf hs => exact .stopped (hfaulted.trans hf) (hseq.trans hs)
    | fresh hf hi hfr hs => exact .fresh (hfaulted.trans hf) (hinit.trans hi) (hfresh hfr) (by rwa [hseq, hbuild])
    | clearing hf hi hc hs => exact .clearing (hfaulted.trans hf) (hinit.trans hi) (hconf hc) (by rwa [hseq, hbuild])
    | starting hf hi hc hg hs =>
      exact .starting (hfaulted.trans hf) (hinit.trans hi) (hconf hc) (hcomplete hg) (by rwa [hseq, hbuild])
    | running hf hi hc hg hs =>
      exact .running (hfaulted.trans hf) (hinit.trans hi) (hconf hc) (hcomplete hg) (by rwa [hseq, hbuild])
  · refine h.pulse.congr ?_ ?_ hout
    · rw [State.actsDone, htrace, State.actsDone]
    · rw [State.actsToCome_eq, hbuild, hseq, State.actsToCome_eq]

theorem State.resetCore_inv {s : State} (hb : s.build.Legal) : s.resetCore.Inv :=
  (State.resetOf_inv hb).congr rfl rfl rfl rfl rfl rfl rfl

/-! ### The stages of a core that performs its queue -/

theorem plainWords_iff {b : Build} {ws : List UopWord} : (∀ w ∈ ws, plainWord b w = true) ↔ PlainWords b ws := by
  simp only [plainWord_iff, PlainWords]

/-- Where a core is whose queue is not empty: at one of the three words of INIT's stages, or at a plain word. -/
inductive State.Stage (s : State) (w : UopWord) (us : List UopWord) : Prop where
  | configure (hw : w = wordPinConfig) (hi : s.initialized = false) (hfresh : s.Fresh)
      (hus : ∃ ws, PlainWords s.build ws ∧ us = wordGridClear :: (ws ++ [wordInitDone]))
  | clear (hw : w = wordGridClear) (hi : s.initialized = false) (hc : s.Configured)
      (hus : ∃ ws, PlainWords s.build ws ∧ us = ws ++ [wordInitDone])
  | finish (hw : w = wordInitDone) (hi : s.initialized = false) (hc : s.Configured) (hg : s.GridComplete) (hus : us = [])
  | plain (hw : PlainWord s.build w) (hc : s.Configured) (hg : s.GridComplete)
      (hus : (s.initialized = false ∧ ∃ ws, PlainWords s.build ws ∧ us = ws ++ [wordInitDone]) ∨
        (s.initialized = true ∧ PlainWords s.build us))

theorem State.Life.stage {s : State} (h : s.Life) (hf : s.faulted = false) {w : UopWord} {us : List UopWord}
    (hs : s.seq = w :: us) : s.Stage w us := by
  cases h with
  | stopped hf' => rw [hf] at hf'; cases hf'
  | fresh _ hi hfresh hseq =>
    obtain hnil | ⟨ws, hplain, hseq⟩ := hseq
    · rw [hs] at hnil
      cases hnil
    · cases hs.symm.trans hseq
      exact .configure rfl hi hfresh ⟨ws, plainWords_iff.mp hplain, rfl⟩
  | clearing _ hi hc hseq =>
    obtain ⟨ws, hplain, hseq⟩ := hseq
    cases hs.symm.trans hseq
    exact .clear rfl hi hc ⟨ws, plainWords_iff.mp hplain, rfl⟩
  | starting _ hi hc hg hseq =>
    obtain ⟨ws, hplain, hseq⟩ := hseq
    cases ws with
    | nil =>
      cases hs.symm.trans hseq
      exact .finish rfl hi hc hg rfl
    | cons w' ws =>
      cases hs.symm.trans hseq
      obtain ⟨hw, hws⟩ := List.forall_mem_cons.mp (plainWords_iff.mp hplain)
      exact .plain hw hc hg (.inl ⟨hi, ws, hws, rfl⟩)
  | running _ hi hc hg hseq =>
    rw [hs] at hseq
    obtain ⟨hw, hus⟩ := List.forall_mem_cons.mp (plainWords_iff.mp hseq)
    exact .plain hw hc hg (.inr ⟨hi, hus⟩)

/-- Where a core is whose queue is empty. -/
theorem State.Life.idle {s : State} (h : s.Life) (hf : s.faulted = false) (hs : s.seq = []) :
    (s.initialized = false ∧ s.Fresh) ∨ (s.initialized = true ∧ s.Configured ∧ s.GridComplete) := by
  cases h with
  | stopped hf' => rw [hf] at hf'; cases hf'
  | fresh _ hi hfresh => exact .inl ⟨hi, hfresh⟩
  | clearing _ _ _ hseq =>
    obtain ⟨ws, -, hseq⟩ := hseq
    rw [hs] at hseq
    cases hseq
  | starting _ _ _ _ hseq =>
    obtain ⟨ws, -, hseq⟩ := hseq
    rw [hs] at hseq
    simp at hseq
  | running _ hi hc hg => exact .inr ⟨hi, hc, hg⟩

/-! ### Each operation keeps the invariant -/

section
variable {s t : State} {w : UopWord} {us : List UopWord}

theorem State.Inv.busy_of_uop {i : Instr} (h : s.Inv) (hs : s.seq = w :: us) (hi : isCommand i = false)
    (hx : exec i s = .next t) : t.busy = true ↔ t.seq ≠ [] := by
  have hb : s.busy = true := h.busy.mpr (by simp [hs])
  rw [exec_uop_busy hx hi, hb]
  simp

theorem configured_configureLines (s : State) : s.configureLines.Configured := fun k hk => by
  have hk : s.build.present k = true := hk
  rw [State.configureLines_pinCfg_get, if_pos hk]

/-- 44 R109: PIN_CONFIG, with either outcome of the platform's draw. -/
theorem State.Inv.exec_pinConfig (h : s.Inv) (hf : s.faulted = false) (hs : s.seq = wordPinConfig :: us)
    (hi : s.initialized = false) (hfresh : s.Fresh)
    (hus : ∃ ws, PlainWords s.build ws ∧ us = wordGridClear :: (ws ++ [wordInitDone]))
    (hx : exec .pinConfig s = .next t) : t.Inv := by
  refine h.of_exec hf hx (h.busy_of_uop hs rfl hx) ?_ ?_
  all_goals obtain hok | hfail := execPinConfig_cases s
  · cases hok.symm.trans hx
    obtain ⟨ws, hws, rfl⟩ := hus
    refine .clearing (by simpa using hf) (by simpa using hi) ?_ ⟨ws, plainWords_iff.mpr (by simpa using hws), by simp [hs]⟩
    simpa [State.Configured] using configured_configureLines s
  · cases hfail.symm.trans hx
    exact .stopped (by simp) (by simp)
  · cases hok.symm.trans hx
    refine h.pulse.congr ?_ ?_ (by simp)
    · simp [State.actsDone, Event.act?]
    · rw [State.actsToCome_eq, State.actsToCome_eq, hs, queueActs_cons]
      simp [hs]
  · cases hfail.symm.trans hx
    obtain ⟨-, -, htrace⟩ := hfresh
    refine h.pulse.of_queue ?_ ?_ (by simp) (by simp [State.actsToCome_eq, PulsePhase.after])
    · simp [State.actsDone, htrace, PulsePhase.after]
    · simp [State.actsDone, hf, Event.act?]

theorem State.clearGrid_complete (s : State) : s.clearGrid.GridComplete := by
  intro r c hin
  rw [State.clearGrid_build] at hin
  rw [State.clearGrid_gridRead, if_pos hin]
  rfl

/-- 44 R110. -/
theorem State.Inv.exec_gridClear (h : s.Inv) (hf : s.faulted = false) (hs : s.seq = wordGridClear :: us)
    (hi : s.initialized = false) (hc : s.Configured)
    (hus : ∃ ws, PlainWords s.build ws ∧ us = ws ++ [wordInitDone]) (hx : exec .gridClear s = .next t) : t.Inv := by
  refine h.of_exec hf hx (h.busy_of_uop hs rfl hx) ?_ ?_
  all_goals cases hx
  · obtain ⟨ws, hws, rfl⟩ := hus
    refine .starting (by simpa using hf) (by simpa using hi) (by simpa [State.Configured] using hc)
      (s.clearGrid_complete.congr (by simp) (by simp)) ⟨ws, plainWords_iff.mpr (by simpa using hws), by simp [hs]⟩
  · refine h.pulse.congr (by simp [State.actsDone]) ?_ (by simp)
    rw [State.actsToCome_eq, State.actsToCome_eq, hs, queueActs_cons]
    simp [hs]

/-- 44 R111. -/
theorem State.Inv.exec_initDone (h : s.Inv) (hf : s.faulted = false) (hs : s.seq = [wordInitDone])
    (hc : s.Configured) (hg : s.GridComplete) (hx : exec .initDone s = .next t) : t.Inv := by
  refine h.of_exec hf hx (h.busy_of_uop hs rfl hx) ?_ ?_
  all_goals cases hx
  · exact .running (by simpa using hf) (by simp) (by simpa [State.Configured] using hc) (hg.congr (by simp) (by simp))
      (by simp [hs])
  · refine h.pulse.congr (by simp [State.actsDone]) ?_ (by simp)
    rw [State.actsToCome_eq, State.actsToCome_eq, hs]
    simp [hs]

theorem State.Inv.exec_plain {i : Instr} (h : s.Inv) (hf : s.faulted = false) (hs : s.seq = w :: us)
    (hc : s.Configured) (hg : s.GridComplete)
    (hus : (s.initialized = false ∧ ∃ ws, PlainWords s.build ws ∧ us = ws ++ [wordInitDone]) ∨
      (s.initialized = true ∧ PlainWords s.build us))
    (hi : isCommand i = false) (hx : exec i s = .next t) (hnext : PlainNext w s t) : t.Inv := by
  refine h.of_exec hf hx (h.busy_of_uop hs hi hx) ?_ (hnext.pulse hs h.pulse)
  have hprogress := hnext.progress hs
  have hf' : t.faulted = false := hprogress.faulted.trans hf
  obtain ⟨e, he, hseq, -⟩ := hnext.seq hs
  obtain ⟨hi, ws, hws, rfl⟩ | ⟨hi, hplain⟩ := hus
  · refine .starting hf' (hprogress.initialized.trans hi) (hprogress.configured hc) (hnext.gridComplete hg)
      ⟨e ++ ws, ?_, by rw [hseq, List.append_assoc]⟩
    rw [plainWords_iff, hprogress.build]
    exact he.append hws
  · refine .running hf' (hprogress.initialized.trans hi) (hprogress.configured hc) (hnext.gridComplete hg) ?_
    rw [plainWords_iff, hprogress.build, hseq]
    exact he.append hplain

theorem PlainWord.exists_decodeUop {b : Build} (h : PlainWord b w) : ∃ i, decodeUop w = .ok i := by
  cases h <;> simp

/-- 30 R59: every word that the core performs is legal, so performing it keeps the invariant. -/
theorem State.Inv.performWord_uop (h : s.Inv) (hf : s.faulted = false) (hs : s.seq = w :: us)
    (hx : performWord (.uop w) s = .next t) : t.Inv := by
  cases h.life.stage hf hs with
  | configure hw hi hfresh hus => subst hw; exact h.exec_pinConfig hf hs hi hfresh hus hx
  | clear hw hi hc hus => subst hw; exact h.exec_gridClear hf hs hi hc hus hx
  | finish hw hi hc hg hus => subst hw hus; exact h.exec_initDone hf hs hc hg hx
  | plain hw hc hg hus =>
    obtain ⟨u, hu, hnext⟩ | ⟨line, -, -, hrefused⟩ := performWord_plain hw
    · cases hu.symm.trans hx
      obtain ⟨i, hd⟩ := hw.exists_decodeUop
      exact h.exec_plain hf hs hc hg hus (decodeUop_isCommand w i hd) ((performUop_ok s hd).symm.trans hx) hnext
    · cases hrefused.symm.trans hx

/-! ### Commands -/

theorem plainWords_sweepSeq (hb : s.build.Legal) {ds : List (Nat × Nat)}
    (hds : ∀ rc ∈ ds, inGrid s.build rc.1 rc.2 = true) : PlainWords s.build (s.sweepSeq ds) :=
  plainWords_flatMap fun rc hrc => plainWords_pixelSeq hb _ (hds rc ((s.sweepOrder_perm ds).mem_iff.mp hrc))

theorem State.diff_inGrid (hg : s.GridComplete) {ds : List (Nat × Nat)} (hd : s.diff = some ds) :
    ∀ rc ∈ ds, inGrid s.build rc.1 rc.2 = true := by
  rw [State.diff_eq_filter hg] at hd
  cases hd
  exact fun rc hrc => (mem_cells _ _ _).mp (List.mem_of_mem_filter hrc)

/-- The next states of a command that a ready core takes. -/
inductive CommandNext (s : State) : State → Prop where
  | fault (c : FaultCode) : CommandNext s (State.raise c s.consume)
  | init (pulse : BitVec 32) (mode : SweepMode) (hi : s.initialized = false) :
      CommandNext s (State.begin (initSeq s.build) (State.setConfig pulse mode s.consume))
  | setPixel (r c : Nat) (v : Bool) (hi : s.initialized = true) (hin : inGrid s.build r c = true) :
      CommandNext s (State.begin (pixelSeq s.build v (r, c)) s.consume)
  | updateFrame (ds : List (Nat × Nat)) (hi : s.initialized = true) (hd : s.diff = some ds) :
      CommandNext s (State.drawn s.sweepDraws (State.begin (s.sweepSeq ds) s.consume))

theorem exec_command_next {i : Instr} (hr : s.ready = true) (hi : isCommand i = true) (hx : exec i s = .next t) :
    CommandNext s t := by
  cases exec_next i s t hx with
  | held _ hr' => rw [hr] at hr'; cases hr'
  | commandFault c => exact .fault c
  | init pulse mode _ _ hinit => exact .init pulse mode hinit
  | setPixel r c v _ _ hinit hin => exact .setPixel _ _ v hinit hin
  | updateFrame ds _ _ hinit _ hd => exact .updateFrame ds hinit hd
  | illegal hc => simp [hi] at hc
  | pinWrite _ _ _ hc | ldSetOutput _ _ hc | edSetRowOutput _ _ hc | edSetColOutput _ _ hc | enableChannel _ _ hc
  | disableChannel _ _ hc | delay _ _ hc | gridWrite _ _ _ hc | pinConfig hc | pinConfigFails hc | gridClear hc
  | initDone hc => subst hc; cases hi

theorem CommandNext.life (h : CommandNext s t) (hs : s.Inv) (hf : s.faulted = false) (hseq : s.seq = []) : t.Life := by
  have hidle := hs.life.idle hf hseq
  cases h with
  | fault => exact .stopped (by simp) (by simp)
  | init pulse mode hi =>
    obtain ⟨-, hfresh⟩ | ⟨hi', -⟩ := hidle
    · exact .fresh (by simpa using hf) (by simpa using hi) hfresh
        (.inr ⟨_, plainWords_iff.mpr (plainWords_startupWords hs.legal), initSeq_eq_cons _⟩)
    · rw [hi] at hi'
      cases hi'
  | setPixel r c v hi hin =>
    obtain ⟨hi', -⟩ | ⟨-, hc, hg⟩ := hidle
    · rw [hi] at hi'
      cases hi'
    · exact .running (by simpa using hf) (by simpa using hi) hc hg
        (plainWords_iff.mpr (plainWords_pixelSeq hs.legal v hin))
  | updateFrame ds hi hd =>
    obtain ⟨hi', -⟩ | ⟨-, hc, hg⟩ := hidle
    · rw [hi] at hi'
      cases hi'
    · exact .running (by simpa using hf) (by simpa using hi) hc hg
        (plainWords_iff.mpr (plainWords_sweepSeq hs.legal (State.diff_inGrid hg hd)))

/-- 60 R117: a command begins whole pulses, or raises its fault with E2 off. -/
theorem CommandNext.pulse (h : CommandNext s t) (hs : s.PulseDisciplined) (hf : s.faulted = false) (hseq : s.seq = []) :
    t.PulseDisciplined := by
  have hoff := hs.off_of_seq_nil hseq
  cases h with
  | fault c =>
    exact hs.of_queue hoff (by simp [State.actsDone, hf, Event.act?]) (by simp)
      (by simp [State.actsToCome_eq, PulsePhase.after])
  | init => exact hs.of_queue hoff rfl rfl (after_queueActs_initSeq _)
  | setPixel r c v => exact hs.of_queue hoff rfl rfl (after_queueActs_pixelSeq _ v (r, c))
  | updateFrame ds => exact hs.of_queue hoff rfl rfl (after_queueActs_sweepSeq s ds)

theorem State.Inv.exec_command {i : Instr} (h : s.Inv) (hseq : s.seq = []) (hr : s.ready = true)
    (hi : isCommand i = true) (hx : exec i s = .next t) : t.Inv := by
  have hf : s.faulted = false := ((ready_iff s).mp hr).2
  have hnext := exec_command_next hr hi hx
  exact h.of_exec hf hx (exec_command_busy hx hi hr) (hnext.life h hf hseq) (hnext.pulse h.pulse hf hseq)

/-- 30 R55: an illegal command word on an idle core. -/
theorem State.Inv.raise (h : s.Inv) (hf : s.faulted = false) (hseq : s.seq = []) (c : FaultCode) :
    (State.raise c s).Inv where
  legal := by simpa using h.legal
  gridWf := by simpa using h.gridWf
  gridCells := by simpa using h.gridCells
  reserved := (State.raise_reserved c s).trans h.reserved
  noCode hf' := by simp at hf'
  code _ := ⟨c, by simp [hf]⟩
  busy := by simp
  absent := by simpa using h.absent
  life := .stopped (by simp) (by simp)
  pulse := h.pulse.of_queue (h.pulse.off_of_seq_nil hseq) (by simp [State.actsDone, hf, Event.act?]) (by simp)
    (by simp [State.actsToCome_eq, PulsePhase.after])

/-! ### Every turn keeps the invariant -/

theorem State.Inv.of_coreTurn (h : s.Inv) (hx : coreTurn s = .next t) : t.Inv := by
  obtain ⟨-, hstay⟩ | ⟨-, -, hstay⟩ | ⟨c, hf, hfetch, hperform⟩ := coreTurn_cases s
  · cases hstay.symm.trans hx
    exact h
  · cases hstay.symm.trans hx
    exact h
  · rw [hperform] at hx
    obtain ⟨w, us, hs, rfl⟩ | ⟨hs, hr, w, -, rfl⟩ := (fetch_eq_some s c).mp hfetch
    · exact h.performWord_uop hf hs hx
    · cases hd : decodeCmd w with
      | ok i => exact h.exec_command hs hr (decodeCmd_isCommand hd) ((performWord_ok (.cmd w) i s hd).symm.trans hx)
      | error e =>
        cases (performWord_error (.cmd w) e s hd).symm.trans hx
        exact State.Inv.raise (s := s.consume) (h.congr rfl rfl rfl rfl rfl rfl rfl) hf hs .illegalCmd

theorem State.Inv.of_hostAct (h : s.Inv) (a : HostAction) : (State.hostAct a s).Inv := by
  cases a with
  | reset => exact State.resetCore_inv h.legal
  | driveCmd | driveFrame | read => exact h.congr rfl rfl rfl rfl rfl rfl rfl

end

/-- Settles O45: each turn keeps the invariant, which does not read the script. -/
theorem stepKeepsTheInvariant : Obligations.StepKeepsTheInvariant := by
  intro s t h hx
  have hscript (rest : List Turn) : ({ s with script := rest } : State).Inv := h.congr rfl rfl rfl rfl rfl rfl rfl
  obtain ⟨-, -, hstop⟩ | ⟨-, -, hcore⟩ | ⟨rest, -, hcore⟩ | ⟨a, rest, -, hhost⟩ := step_cases s
  · cases hstop.symm.trans hx
  · exact h.of_coreTurn (hcore.symm.trans hx)
  · exact (hscript rest).of_coreTurn (hcore.symm.trans hx)
  · cases hhost.symm.trans hx
    exact (hscript rest).of_hostAct a

end Sys2Proof.Machine
end

section
/-!
PROOFS. What the invariant gives: no step is refused (20_memory.md R39, 40_line_decoder.md R63), and the address and group
lines change only while E2 is off (70_reset_and_hazards.md R132, 60_exceptions.md R118, 42_timer.md R82).
-/

namespace Sys2Proof.Machine

/-! ### Progress -/

section
variable {s : State}

theorem performWord_plain_of_configured {w : UopWord} (hw : PlainWord s.build w) (hc : s.Configured) :
    ∃ t, performWord (.uop w) s = .next t ∧ PlainNext w s t := by
  obtain hnext | ⟨line, hp, hcfg, -⟩ := performWord_plain hw
  · exact hnext
  · rw [hc line hp] at hcfg
    cases hcfg

theorem State.Inv.performWord_uop_next (h : s.Inv) (hf : s.faulted = false) {w : UopWord} {us : List UopWord}
    (hs : s.seq = w :: us) : ∃ t, performWord (.uop w) s = .next t := by
  cases h.life.stage hf hs with
  | configure hw =>
    subst hw
    obtain hok | hfail := execPinConfig_cases s
    · exact ⟨_, hok⟩
    · exact ⟨_, hfail⟩
  | clear hw => subst hw; exact ⟨_, rfl⟩
  | finish hw => subst hw; exact ⟨_, rfl⟩
  | plain hw hc =>
    obtain ⟨t, ht, -⟩ := performWord_plain_of_configured hw hc
    exact ⟨t, ht⟩

/-- 20 R39: after INIT every cell has a value, so UPDATE_FRAME's diff exists. -/
theorem State.Inv.exec_command_next (h : s.Inv) (hf : s.faulted = false) (hs : s.seq = []) {i : Instr}
    (hi : isCommand i = true) : ∃ t, exec i s = .next t := by
  obtain ⟨pulse, mode, rfl⟩ | ⟨row, col, val, rfl⟩ | rfl := isCommand_eq_true_iff.mp hi
  · rw [exec_init]
    obtain ⟨-, he⟩ | ⟨-, -, he⟩ | ⟨-, -, he⟩ := accept_cases false .reInit (startInit pulse mode) s <;> exact ⟨_, he⟩
  · rw [exec_setPixel]
    obtain ⟨-, he⟩ | ⟨-, -, he⟩ | ⟨-, -, he⟩ := accept_cases true .noInit (startPixel row col val) s
    · exact ⟨_, he⟩
    · obtain ⟨-, hp⟩ | ⟨-, hp⟩ := startPixel_cases row col val s.consume <;> exact ⟨_, he.trans hp⟩
    · exact ⟨_, he⟩
  · rw [exec_updateFrame]
    obtain ⟨-, he⟩ | ⟨-, hinit, he⟩ | ⟨-, -, he⟩ := accept_cases true .noInit startFrame s
    · exact ⟨_, he⟩
    · obtain ⟨hinit', -⟩ | ⟨-, -, hg⟩ := h.life.idle hf hs
      · rw [hinit] at hinit'
        cases hinit'
      obtain ⟨-, hp⟩ | ⟨-, hd, -⟩ | ⟨ds, -, -, hp⟩ := startFrame_cases s.consume
      · exact ⟨_, he.trans hp⟩
      · rw [State.diff_consume, State.diff_eq_filter hg] at hd
        cases hd
      · exact ⟨_, he.trans hp⟩
    · exact ⟨_, he⟩

theorem State.Inv.coreTurn_next (h : s.Inv) : ∃ t, coreTurn s = .next t := by
  obtain ⟨-, hstay⟩ | ⟨-, -, hstay⟩ | ⟨c, hf, hfetch, hperform⟩ := coreTurn_cases s
  · exact ⟨_, hstay⟩
  · exact ⟨_, hstay⟩
  · rw [hperform]
    obtain ⟨w, us, hs, rfl⟩ | ⟨hs, -, w, -, rfl⟩ := (fetch_eq_some s c).mp hfetch
    · exact h.performWord_uop_next hf hs
    · cases hd : decodeCmd w with
      | error e => exact ⟨_, performWord_error (.cmd w) e s hd⟩
      | ok i =>
        obtain ⟨t, ht⟩ := h.exec_command_next hf hs (decodeCmd_isCommand hd)
        exact ⟨t, (performWord_ok (.cmd w) i s hd).trans ht⟩

end

/-- Settles O46: a turn of the core has a next state, so has one of the host, and no other turn is left only for the
stopped core. -/
theorem invariantStatesAreNeverRefused : Obligations.InvariantStatesAreNeverRefused := by
  intro s h
  have hscript (rest : List Turn) : ({ s with script := rest } : State).Inv := h.congr rfl rfl rfl rfl rfl rfl rfl
  obtain ⟨hs, hf, hstop⟩ | ⟨-, -, hcore⟩ | ⟨rest, -, hcore⟩ | ⟨a, rest, -, hhost⟩ := step_cases s
  · exact .inr ⟨hf, hs, hstop⟩
  · rw [hcore]
    exact .inl h.coreTurn_next
  · rw [hcore]
    exact .inl (hscript rest).coreTurn_next
  · exact .inl ⟨_, hhost⟩

/-! ### The pulse line -/

section
variable {s t : State}

theorem State.Life.seq_nil_of_faulted (h : s.Life) (hf : s.faulted = true) : s.seq = [] := by
  cases h with
  | stopped _ hs => exact hs
  | fresh hf' | clearing hf' | starting hf' | running hf' =>
    rw [hf] at hf'
    cases hf'

theorem State.PulseDisciplined.e2_off (h : s.PulseDisciplined) (hoff : PulsePhase.off.after s.actsDone = some .off) :
    s.pinOut[13] ≠ some true := by
  obtain ⟨p, hp, -, hon⟩ := s.pulseDisciplined_iff.mp h
  obtain rfl : p = .off := Option.some.inj (hp.symm.trans hoff)
  rw [Ne, ← hon]
  simp [PulsePhase.On]

/-- 60 R118: a stopped core has its pulse line off. -/
theorem State.Inv.e2_off_of_faulted (h : s.Inv) (hf : s.faulted = true) : s.pinOut[13] ≠ some true :=
  h.pulse.e2_off (h.pulse.off_of_seq_nil (h.life.seq_nil_of_faulted hf))

/-- 70 R132: the next write of a line other than E2 finds E2 off. -/
theorem State.PulseDisciplined.e2_off_of_write (h : s.PulseDisciplined) {k : Nat} {v : Bool} {rest : List Act}
    (hcome : s.actsToCome = .write k v :: rest) (hk : k ≠ 13) : s.pinOut[13] ≠ some true := by
  obtain ⟨p, hp, hafter, -⟩ := s.pulseDisciplined_iff.mp h
  rw [hcome, PulsePhase.after_cons_eq_some] at hafter
  obtain ⟨q, hq, -⟩ := hafter
  rw [PulsePhase.eq_off_of_next_write hq hk] at hp
  exact h.e2_off hp

/-- A turn of the core that changes a latch performs the write of that line. -/
theorem coreTurn_pinOut_ne (hx : coreTurn s = .next t) {k : Line} (hne : t.pinOut[k.val] ≠ s.pinOut[k.val]) :
    ∃ v rest, s.actsToCome = .write k.val v :: rest := by
  obtain rfl | ⟨c, e, -, -, -, rfl⟩ | ⟨c, i, -, hfetch, hd, hexec⟩ := coreTurn_next hx
  · exact absurd rfl hne
  · cases c <;> simp [State.rejectWord] at hne
  · obtain ⟨hother, hsame, -⟩ := writersOfLatchesAndConfiguration i s t hexec
    by_cases hi : ∃ line v, i = .pinWrite line v
    · obtain ⟨line, v, rfl⟩ := hi
      have hk : k.val = line.toNat := by_contra fun hk => hne (hsame line v rfl k hk)
      obtain ⟨w, us, hs, rfl⟩ | ⟨-, -, w, -, rfl⟩ := (fetch_eq_some s c).mp hfetch
      · cases encode_of_decodeUop hd
        exact ⟨v, queueActs s.build us, by rw [State.actsToCome_eq, hs, queueActs_cons, queueActs_wordPinWrite, hk]; rfl⟩
      · cases decodeCmd_isCommand hd
    · rw [hother fun line v he => hi ⟨line, v, he⟩] at hne
      exact absurd rfl hne

end

/-- Settles O47: a step that changes an address or group line is a turn of the core that performs its write. -/
theorem addressLinesChangeOnlyWhileThePulseIsOff : Obligations.AddressLinesChangeOnlyWhileThePulseIsOff := by
  refine fun s h => ⟨h.e2_off_of_faulted, fun t hx hreset k hk hne => ?_⟩
  have hwrite (hwrites : ∃ v rest, s.actsToCome = .write k.val v :: rest) : s.pinOut[13] ≠ some true := by
    obtain ⟨v, rest, hcome⟩ := hwrites
    exact h.pulse.e2_off_of_write hcome (by omega)
  obtain ⟨-, -, hstop⟩ | ⟨-, -, hcore⟩ | ⟨rest, -, hcore⟩ | ⟨a, rest, hscript, hhost⟩ := step_cases s
  · cases hstop.symm.trans hx
  · exact hwrite (coreTurn_pinOut_ne (hcore.symm.trans hx) hne)
  · exact hwrite (coreTurn_pinOut_ne (s := { s with script := rest }) (hcore.symm.trans hx) hne)
  · cases hhost.symm.trans hx
    cases a with
    | reset => exact absurd hscript (hreset rest)
    | driveCmd | driveFrame | read => exact absurd rfl hne

/-- Settles O48: E2 is asserted in the phases `asserted` and `held`, and each fixes what may follow. -/
theorem onlyThePulseWaitWhileAsserted : Obligations.OnlyThePulseWaitWhileAsserted := by
  intro s h hout
  obtain ⟨p, -, hcome, hon⟩ := s.pulseDisciplined_iff.mp h.pulse
  obtain rfl | rfl := hon.mpr hout
  · obtain ⟨rest, hrest, hheld⟩ := PulsePhase.after_asserted hcome
    obtain ⟨rest', hrest'⟩ := PulsePhase.after_held hheld
    exact .inl (by rw [hrest, hrest']; rfl)
  · obtain ⟨rest, hrest⟩ := PulsePhase.after_held hcome
    exact .inr (by rw [hrest]; rfl)

end Sys2Proof.Machine
end

section
/-!
PROOFS. Runs: a queue of plain words runs to its end in a known number of steps (30_encoding.md R60, 42_timer.md R81), the
acts of its words being then done; so LD_SET_OUTPUT (40_line_decoder.md R70) and the addressing of a pixel
(41_enable_decoder.md R79).
-/

namespace Sys2Proof.Machine

/-! ### Runs of the machine -/

theorem run_succ_of_step (M : Host.Core) {n : Nat} {s t : M.State} (h : M.step s = .next t) :
    M.run (n + 1) s = M.run n t := by
  simp only [Host.Core.run, h]

theorem step_of_run_succ (M : Host.Core) {n : Nat} {s u : M.State} (h : M.run (n + 1) s = .next u) :
    ∃ t, M.step s = .next t ∧ M.run n t = .next u := by
  cases hstep : M.step s with
  | next t => exact ⟨t, rfl, (run_succ_of_step M hstep).symm.trans h⟩
  | fault | refused => simp only [Host.Core.run, hstep] at h; cases h

/-- k steps of the machine lead from s to t. -/
def State.RunsTo (s : State) (k : Nat) (t : State) : Prop := core.run k s = .next t

section
variable {s t u : State} {m n : Nat}

theorem State.RunsTo.zero (s : State) : s.RunsTo 0 s := rfl

theorem State.RunsTo.head (h : step s = .next t) (hrun : t.RunsTo n u) : s.RunsTo (n + 1) u :=
  (run_succ_of_step core h).trans hrun

theorem State.RunsTo.step_of_succ (h : s.RunsTo (n + 1) u) : ∃ t, step s = .next t ∧ t.RunsTo n u :=
  step_of_run_succ core h

theorem State.RunsTo.trans (h : s.RunsTo m t) (h' : t.RunsTo n u) : s.RunsTo (m + n) u := by
  induction m generalizing s with
  | zero =>
    cases h
    rwa [Nat.zero_add]
  | succ m ih =>
    obtain ⟨r, hstep, hrun⟩ := h.step_of_succ
    rw [Nat.succ_add]
    exact .head hstep (ih hrun)

/-- Every state a run reaches meets the invariant. -/
theorem State.Inv.of_run (hs : s.Inv) (h : s.RunsTo n t) : t.Inv := by
  induction n generalizing s with
  | zero => cases h; exact hs
  | succ n ih =>
    obtain ⟨r, hstep, hrun⟩ := h.step_of_succ
    exact ih (stepKeepsTheInvariant s r hs hstep) hrun

end

/-! ### Plain queues run to their end -/

/-- The core performs its queue with no turn of the host in between. -/
structure State.Performing (s : State) : Prop where
  script : s.script = []
  faulted : s.faulted = false
  configured : s.Configured

theorem State.Progress.performing {s t : State} (h : s.Progress t) (hs : s.Performing) : t.Performing :=
  ⟨h.script.trans hs.script, h.faulted.trans hs.faulted, h.configured hs.configured⟩

theorem State.Performing.step_eq {s : State} (h : s.Performing) {w : UopWord} {us : List UopWord} (hs : s.seq = w :: us) :
    step s = performWord (.uop w) s :=
  (step_of_script_nil h.script h.faulted).trans (coreTurn_of_seq_cons h.faulted hs)

theorem PlainWords.of_build {b b' : Build} {ws : List UopWord} (h : PlainWords b ws) (hb : b' = b) : PlainWords b' ws := by
  rwa [hb]

/-- A queue of plain words runs to its end, whatever follows it. -/
theorem State.Performing.run_plain {s : State} (h : s.Performing) {ws us : List UopWord} (hws : PlainWords s.build ws)
    (hs : s.seq = ws ++ us) : ∃ t, s.RunsTo (queueSteps s.build ws) t ∧ t.seq = us ∧ s.Progress t := by
  induction hn : queueSteps s.build ws generalizing s ws with
  | zero =>
    cases ws with
    | nil => exact ⟨s, .zero s, hs, .refl s⟩
    | cons w ws =>
      obtain ⟨t, -, hnext⟩ := performWord_plain_of_configured (hws w (by simp)) h.configured
      obtain ⟨e, -, -, hsteps⟩ := hnext.seq (us := ws ++ us) hs
      simp [queueSteps] at hn
      omega
  | succ n ih =>
    cases ws with
    | nil => cases hn
    | cons w ws =>
      obtain ⟨hw, hws⟩ := List.forall_mem_cons.mp hws
      obtain ⟨t, ht, hnext⟩ := performWord_plain_of_configured hw h.configured
      have hprogress := hnext.progress (us := ws ++ us) hs
      obtain ⟨e, he, hseq, hsteps⟩ := hnext.seq (us := ws ++ us) hs
      have hsteps' : queueSteps t.build (e ++ ws) = n := by
        rw [hprogress.build, queueSteps_append]
        simp [queueSteps] at hn hsteps ⊢
        omega
      obtain ⟨u, hrun, hu, hprogress'⟩ := ih (hprogress.performing h)
        ((he.append hws).of_build hprogress.build) (by rw [hseq, List.append_assoc]) hsteps'
      exact ⟨u, .head ((h.step_eq hs).trans ht) hrun, hu, hprogress.trans hprogress'⟩

/-- The part of its queue a core has performed, by what is left. -/
theorem State.Progress.acts_of_seq {s t : State} (h : s.Progress t) {ws us : List UopWord} (hs : s.seq = ws ++ us)
    (ht : t.seq = us) : ∃ es, t.trace = s.trace ++ es ∧ es.filterMap Event.act? = queueActs s.build ws ∧
      t.pinOut = latchActs s.pinOut (queueActs s.build ws) ∧ s.leastUs (queueActs s.build ws) ≤ elapsedUs es := by
  obtain ⟨es, htrace, hcome, hout, hleast⟩ := h.acts
  rw [State.actsToCome_eq, State.actsToCome_eq, h.build, hs, ht, queueActs_append] at hcome
  have hes := (List.append_cancel_right hcome).symm
  exact ⟨es, htrace, hes, by rw [hout, hes], by rw [← hes]; exact hleast⟩

theorem State.Progress.writes_of_seq {s t : State} (h : s.Progress t) {ws us : List UopWord} (hs : s.seq = ws ++ us)
    (ht : t.seq = us) : t.grid = writeCells s.build s.grid (queueWrites ws) := by
  obtain ⟨ds, hcome, hgrid⟩ := h.writes
  rw [hs, ht, queueWrites_append] at hcome
  rw [hgrid, List.append_cancel_right hcome]

/-! ### LD_SET_OUTPUT run to its end -/

theorem latchActs_cons (out : Vector (Option Bool) 14) (a : Act) (as : List Act) :
    latchActs out (a :: as) = latchActs (latchAct out a) as := rfl

@[simp] theorem latchActs_nil (out : Vector (Option Bool) 14) : latchActs out [] = out := rfl

theorem getElem_latchAct_write (out : Vector (Option Bool) 14) {j k : Nat} (v : Bool) (hj : j < 14) :
    (latchAct out (.write k v))[j] = if k = j then some v else out[j] := by
  simp only [latchAct]
  split
  next hk => rw [Vector.getElem_set]
  next hk => rw [if_neg (by omega)]

theorem getElem_latchActs_of_not_written (out : Vector (Option Bool) 14) {as : List Act} {j : Nat} (hj : j < 14)
    (h : ∀ v, .write j v ∉ as) : (latchActs out as)[j] = out[j] := by
  induction as generalizing out with
  | nil => rfl
  | cons a as ih =>
    rw [latchActs_cons, ih _ fun v hv => h v (List.mem_cons_of_mem _ hv)]
    cases a with
    | wait => rfl
    | write k v =>
      rw [getElem_latchAct_write _ _ hj, if_neg]
      rintro rfl
      exact h v (List.mem_cons_self ..)

/-- A line whose writes all have one value ends with it. -/
theorem getElem_latchActs_of_written (out : Vector (Option Bool) 14) {as : List Act} {j : Nat} {v : Bool} (hj : j < 14)
    (hmem : .write j v ∈ as) (honly : ∀ v', .write j v' ∈ as → v' = v) : (latchActs out as)[j] = some v := by
  induction as generalizing out with
  | nil => cases hmem
  | cons a as ih =>
    rw [latchActs_cons]
    by_cases hlater : ∃ v', .write j v' ∈ as
    · obtain ⟨v', hv'⟩ := hlater
      obtain rfl := honly v' (List.mem_cons_of_mem _ hv')
      exact ih _ hv' fun v'' hv'' => honly v'' (List.mem_cons_of_mem _ hv'')
    · rw [getElem_latchActs_of_not_written _ hj fun v' hv' => hlater ⟨v', hv'⟩]
      obtain rfl | hmem := List.mem_cons.mp hmem
      · rw [getElem_latchAct_write _ _ hj, if_pos rfl]
      · exact absurd ⟨v, hmem⟩ hlater

theorem getElem_latchActs_of_iff (out : Vector (Option Bool) 14) {as : List Act} {j : Nat} {v : Bool} (hj : j < 14)
    (h : ∀ v', .write j v' ∈ as ↔ v' = v) : (latchActs out as)[j] = some v :=
  getElem_latchActs_of_written out hj ((h v).mpr rfl) fun v' => (h v').mp

/-- The writes of LD_SET_OUTPUT for a position (40 R68), as acts. -/
theorem queueActs_wordLdSetOutput_eq (b : Build) (d : Decoder) (p : BitVec 4) :
    queueActs b [wordLdSetOutput d p] =
      [.write (decoderLine d 2).val (p.getLsbD 2), .write (decoderLine d 1).val (p.getLsbD 1),
        .write (decoderLine d 0).val (p.getLsbD 0)] ++
      (if a3Present b d then [.write (decoderLine d 3).val (!p.getLsbD 3)] else []) := by
  have h := queueActs_wordLdSetOutput b d p.toNat
  rwa [BitVec.ofNat_toNat, BitVec.setWidth_eq] at h

/-- The level of line A_i for a position: A3 is inverted (40 R67). -/
def ldBit (p : BitVec 4) (i : Fin 4) : Bool := if i = 3 then !p.getLsbD 3 else p.getLsbD i.val

theorem write_mem_queueActs_wordLdSetOutput {b : Build} {d : Decoder} {p : BitVec 4} {k : Nat} {v : Bool} :
    .write k v ∈ queueActs b [wordLdSetOutput d p] ↔
      ∃ i : Fin 4, k = (decoderLine d i).val ∧ v = ldBit p i ∧ (i = 3 → a3Present b d = true) := by
  rw [queueActs_wordLdSetOutput_eq]
  cases ha3 : a3Present b d <;> simp [Fin.exists_fin_succ, ldBit] <;> tauto

theorem decoderLine_inj (d : Decoder) {i j : Fin 4} (h : (decoderLine d i).val = (decoderLine d j).val) : i = j := by
  cases d <;> simp [decoderLine] at h <;> exact Fin.ext (by omega)

/-- The position on the lines, from the four latches (40 R70). -/
theorem ldView_of_latches {s : State} {d : Decoder} {p : BitVec 4}
    (h : ∀ i : Fin 4, (i = 3 → a3Present s.build d = true) → s.pinOut[(decoderLine d i).val] = some (ldBit p i)) :
    s.ldView d = some (if a3Present s.build d then p else p &&& 7#4) := by
  simp only [State.ldView, h 0 (by simp), h 1 (by simp), h 2 (by simp)]
  cases ha3 : a3Present s.build d with
  | true =>
    simp only [h 3 fun _ => ha3]
    clear * -
    simp [ldBit]
    decide +revert
  | false =>
    clear * -
    simp [ldBit]
    decide +revert

/-- After acts whose writes of the decoder's lines are those of LD_SET_OUTPUT the lines show its position. -/
theorem ldView_of_acts {s t : State} {d : Decoder} {p : BitVec 4} {as : List Act} (hbuild : t.build = s.build)
    (hout : t.pinOut = latchActs s.pinOut as)
    (has : ∀ (i : Fin 4) (v : Bool), .write (decoderLine d i).val v ∈ as ↔
      .write (decoderLine d i).val v ∈ queueActs s.build [wordLdSetOutput d p]) :
    t.ldView d = some (if a3Present s.build d then p else p &&& 7#4) := by
  rw [← hbuild]
  refine ldView_of_latches fun i hi => ?_
  simp only [hout]
  rw [hbuild] at hi
  refine getElem_latchActs_of_written _ (decoderLine d i).isLt ?_ fun v hv => ?_
  · rw [has, write_mem_queueActs_wordLdSetOutput]
    exact ⟨i, rfl, rfl, hi⟩
  · rw [has, write_mem_queueActs_wordLdSetOutput] at hv
    obtain ⟨j, hj, rfl, -⟩ := hv
    rw [decoderLine_inj d hj]

/-- Settles O14: the run of one plain word, whose acts set the four latches and no other. -/
theorem ldSetOutputIsSeenOnTheLines : Obligations.LdSetOutputIsSeenOnTheLines := by
  intro s d p rest hscript hf hc hs
  obtain ⟨t, hrun, hseq, hprogress⟩ := State.Performing.run_plain ⟨hscript, hf, hc⟩ (ws := [wordLdSetOutput d p])
    (.cons (.ldSetOutput d p) (.nil _)) hs
  obtain ⟨es, -, -, hout, -⟩ := hprogress.acts_of_seq (ws := [wordLdSetOutput d p]) hs hseq
  refine ⟨t, by simpa [queueSteps, State.RunsTo, ldSteps] using hrun, hseq,
    ldView_of_acts hprogress.build hout fun i v => .rfl, ?_, fun k hk => ?_⟩
  · rw [hprogress.writes_of_seq (ws := [wordLdSetOutput d p]) hs hseq]
    simp [queueWrites, writeCells]
  · simp only [hout]
    refine getElem_latchActs_of_not_written _ k.isLt fun v hv => ?_
    obtain ⟨i, hi, -⟩ := write_mem_queueActs_wordLdSetOutput.mp hv
    exact hk i (Fin.ext hi)

end Sys2Proof.Machine
end

section
/-!
PROOFS. The addressing of a pixel: the lines when a pixel sequence comes to assert E2 (41_enable_decoder.md R79,
43_display_controller.md R91).
-/

namespace Sys2Proof.Machine

theorem ofBool_testBit_append (x : Nat) :
    BitVec.ofBool (x.testBit 1) ++ BitVec.ofBool (x.testBit 0) = BitVec.ofNat 2 x := by
  rw [← getElem_ofNat (n := 2) x 1 (by decide), ← getElem_ofNat (n := 2) x 0 (by decide)]
  generalize BitVec.ofNat 2 x = y
  decide +revert

/-- The acts that address a pixel: groups and positions of rows, then of columns. -/
theorem queueActs_address (b : Build) (g g' pos pos' : Nat) :
    queueActs b [wordEdSetRowOutput (BitVec.ofNat 2 g) (BitVec.ofNat 4 pos),
        wordEdSetColOutput (BitVec.ofNat 2 g') (BitVec.ofNat 4 pos')] =
      [.write 8 (g.testBit 0), .write 9 (g.testBit 1)] ++ queueActs b [wordLdSetOutput .row (BitVec.ofNat 4 pos)] ++
      ([.write 10 (g'.testBit 0), .write 11 (g'.testBit 1)] ++
        queueActs b [wordLdSetOutput .col (BitVec.ofNat 4 pos')]) := by
  rw [queueActs_cons, queueActs_wordEdSetRowOutput, queueActs_wordEdSetColOutput]

theorem write_not_mem_queueActs_wordLdSetOutput {b : Build} {d : Decoder} {p : BitVec 4} {k : Nat} (v : Bool)
    (hk : ∀ i : Fin 4, k ≠ (decoderLine d i).val) : .write k v ∉ queueActs b [wordLdSetOutput d p] := by
  rw [write_mem_queueActs_wordLdSetOutput]
  rintro ⟨i, hi, -⟩
  exact hk i hi

theorem decoderLine_lt_eight (d : Decoder) (i : Fin 4) : (decoderLine d i).val < 8 := by
  cases d <;> simp [decoderLine] <;> omega

theorem decoderLine_row_ne_col (i j : Fin 4) : (decoderLine .row i).val ≠ (decoderLine .col j).val := by
  simp [decoderLine]
  omega

/-- The lines after the acts that address a pixel. -/
theorem addressed_of_acts {s t : State} {g g' pos pos' : Nat} {e1 : Bool} (hbuild : t.build = s.build)
    (he1 : s.pinOut[12] = some e1)
    (hout : t.pinOut = latchActs s.pinOut (queueActs s.build
      [wordEdSetRowOutput (BitVec.ofNat 2 g) (BitVec.ofNat 4 pos),
        wordEdSetColOutput (BitVec.ofNat 2 g') (BitVec.ofNat 4 pos')])) :
    t.addressed = some {
      rowGroup := BitVec.ofNat 2 g
      rowPos := if s.build.rowA3 then BitVec.ofNat 4 pos else BitVec.ofNat 4 pos &&& 7#4
      colGroup := BitVec.ofNat 2 g'
      colPos := if s.build.colA3 then BitVec.ofNat 4 pos' else BitVec.ofNat 4 pos' &&& 7#4
      rowEnable := e1 } := by
  rw [queueActs_address] at hout
  have hld {k : Nat} (hk : 8 ≤ k) (d : Decoder) (p : BitVec 4) (v : Bool) :
      .write k v ∉ queueActs s.build [wordLdSetOutput d p] :=
    write_not_mem_queueActs_wordLdSetOutput v fun i hi => by have := decoderLine_lt_eight d i; omega
  have h8 : t.pinOut[8] = some (g.testBit 0) := by
    simp only [hout]
    exact getElem_latchActs_of_iff _ (by decide) (by simp [hld])
  have h9 : t.pinOut[9] = some (g.testBit 1) := by
    simp only [hout]
    exact getElem_latchActs_of_iff _ (by decide) (by simp [hld])
  have h10 : t.pinOut[10] = some (g'.testBit 0) := by
    simp only [hout]
    exact getElem_latchActs_of_iff _ (by decide) (by simp [hld])
  have h11 : t.pinOut[11] = some (g'.testBit 1) := by
    simp only [hout]
    exact getElem_latchActs_of_iff _ (by decide) (by simp [hld])
  have h12 : t.pinOut[12] = some e1 := by
    simp only [hout]
    rw [getElem_latchActs_of_not_written _ (by decide) fun v hv => by simp [hld] at hv, he1]
  have hline (d : Decoder) (i : Fin 4) {n : Nat} (hn : 8 ≤ n) : (decoderLine d i).val ≠ n :=
    ((decoderLine_lt_eight d i).trans_le hn).ne
  have hrow : t.ldView .row = _ := ldView_of_acts (p := BitVec.ofNat 4 pos) hbuild hout fun i v => by
    simp [hline, write_not_mem_queueActs_wordLdSetOutput v (decoderLine_row_ne_col i)]
  have hcol : t.ldView .col = _ := ldView_of_acts (p := BitVec.ofNat 4 pos') hbuild hout fun i v => by
    simp [hline, write_not_mem_queueActs_wordLdSetOutput v fun j => (decoderLine_row_ne_col j i).symm]
  simp only [State.addressed, h8, h9, h10, h11, h12, hrow, hcol, a3Present, ← ofBool_testBit_append]
  rfl

/-- Settles O50: the two words that address the pixel run to their end, and the next step puts the write of E2 at the head
of SEQ. -/
theorem pixelSequenceAddressesItsCell : Obligations.PixelSequenceAddressesItsCell := by
  intro s r c v e1 rest hb hscript hf hc hr hcw he1 hs
  let address := (pixelSeq s.build v (r, c)).take 2
  have hplain : PlainWords s.build address := .cons (.edSetRowOutput _ _) (.cons (.edSetColOutput _ _) (.nil _))
  obtain ⟨t, hrun, hseq, hprogress⟩ := State.Performing.run_plain (us := (pixelSeq s.build v (r, c)).drop 2 ++ rest)
    ⟨hscript, hf, hc⟩ hplain hs
  obtain ⟨es, -, -, hout, -⟩ := hprogress.acts_of_seq (ws := address) hs hseq
  have hstep : step t = .next (State.expand [wordPinWrite 13#4 true] t) :=
    (hprogress.performing ⟨hscript, hf, hc⟩).step_eq hseq
  refine ⟨State.expand [wordPinWrite 13#4 true] t, ?_, ?_, ?_⟩
  · have hsteps : queueSteps s.build address + 1 = 15 + s.build.rowA3.toNat + s.build.colA3.toNat := by
      cases hrow : s.build.rowA3 <;> cases hcol : s.build.colA3 <;>
        simp [address, pixelSeq, queueSteps, ldSteps, a3Present, hrow, hcol]
    rw [← hsteps]
    exact hrun.trans (.head hstep (.zero _))
  · rw [State.expand_seq, hseq]
    rfl
  · exact addressed_of_acts (t := State.expand [wordPinWrite 13#4 true] t) hprogress.build he1 hout

end Sys2Proof.Machine
end

section
/-!
PROOFS. Pixels one after another: the acts, the waits and the cell writes of a list of pixel sequences, and so the ends of
SET_PIXEL and UPDATE_FRAME (43_display_controller.md R95, R102, R103, R107).
-/

namespace Sys2Proof.Machine

/-! ### The queue of a list of pixels -/

/-- The pixel sequences of the cells of l, each with its value under f. -/
def paintWords (b : Build) (f : Nat × Nat → Bool) (l : List (Nat × Nat)) : List UopWord :=
  l.flatMap fun rc => pixelSeq b (f rc) rc

section
variable {b : Build} {f : Nat × Nat → Bool} {rc : Nat × Nat} {l : List (Nat × Nat)}

theorem paintWords_cons : paintWords b f (rc :: l) = pixelSeq b (f rc) rc ++ paintWords b f l :=
  List.flatMap_cons

theorem plainWords_paintWords (hb : b.Legal) (hl : ∀ rc ∈ l, inGrid b rc.1 rc.2 = true) :
    PlainWords b (paintWords b f l) :=
  plainWords_flatMap fun rc hrc => plainWords_pixelSeq hb _ (hl rc hrc)

theorem pulseCount_append (as bs : List Act) : pulseCount (as ++ bs) = pulseCount as + pulseCount bs :=
  List.count_append

/-- 43 R91: one assertion of E2. -/
theorem pulseCount_pixelSeq (b : Build) (v : Bool) (rc : Nat × Nat) : pulseCount (queueActs b (pixelSeq b v rc)) = 1 := by
  have hrow (g pos : Nat) : pulseCount (rowActs b g pos) = 0 := by
    cases h : b.rowA3 <;> simp [pulseCount, rowActs, h]
  have hcol (g pos : Nat) : pulseCount (colActs b g pos) = 0 := by
    cases h : b.colA3 <;> simp [pulseCount, colActs, h]
  rw [queueActs_pixelSeq, pulseCount_append, pulseCount_append, hrow, hcol]
  rfl

theorem pulseCount_paintWords (b : Build) (f : Nat × Nat → Bool) (l : List (Nat × Nat)) :
    pulseCount (queueActs b (paintWords b f l)) = l.length := by
  induction l with
  | nil => rfl
  | cons rc l ih =>
    rw [paintWords_cons, queueActs_append, pulseCount_append, pulseCount_pixelSeq, ih, List.length_cons, Nat.add_comm]

/-- 42 R80: the two waits of a pulse. -/
theorem State.leastUs_pixelSeq (s : State) (b : Build) (v : Bool) (rc : Nat × Nat) :
    s.leastUs (queueActs b (pixelSeq b v rc)) = s.cfgPulseUs.toNat + s.build.recoveryUs := by
  have hrow (g pos : Nat) : s.leastUs (rowActs b g pos) = 0 := by
    cases h : b.rowA3 <;> simp [State.leastUs, rowActs, h]
  have hcol (g pos : Nat) : s.leastUs (colActs b g pos) = 0 := by
    cases h : b.colA3 <;> simp [State.leastUs, colActs, h]
  rw [queueActs_pixelSeq, State.leastUs_append, State.leastUs_append, hrow, hcol]
  simp [State.leastUs, pulseActs, State.minimumUs]

theorem State.leastUs_paintWords (s : State) (b : Build) (f : Nat × Nat → Bool) (l : List (Nat × Nat)) :
    s.leastUs (queueActs b (paintWords b f l)) = l.length * (s.cfgPulseUs.toNat + s.build.recoveryUs) := by
  induction l with
  | nil => simp [paintWords, State.leastUs]
  | cons rc l ih =>
    rw [paintWords_cons, queueActs_append, State.leastUs_append, State.leastUs_pixelSeq, ih, List.length_cons,
      Nat.succ_mul, Nat.add_comm]

/-- 43 R90: the fields of GRID_WRITE hold any cell of a legal build. -/
theorem queueWrites_pixelSeq (hb : b.Legal) (v : Bool) (hin : inGrid b rc.1 rc.2 = true) :
    queueWrites (pixelSeq b v rc) = [(rc, v)] := by
  obtain ⟨hr, hc⟩ := (inGrid_eq_true_iff _ _ _).mp hin
  obtain ⟨hr28, hc28⟩ := hb.cell_lt hr hc
  simp [queueWrites, pixelSeq, Nat.mod_eq_of_lt (a := rc.1) (b := 32) (by omega),
    Nat.mod_eq_of_lt (a := rc.2) (b := 32) (by omega)]

theorem queueWrites_paintWords (hb : b.Legal) (hl : ∀ rc ∈ l, inGrid b rc.1 rc.2 = true) :
    queueWrites (paintWords b f l) = l.map fun rc => (rc, f rc) := by
  induction l with
  | nil => rfl
  | cons rc l ih =>
    obtain ⟨hrc, hl⟩ := List.forall_mem_cons.mp hl
    rw [paintWords_cons, queueWrites_append, queueWrites_pixelSeq hb _ hrc, ih hl, List.map_cons, List.singleton_append]

/-- What a cell reads after the writes of the cells of l. -/
theorem gridRead_of_painted {s t : State} (hbuild : t.build = s.build) (hl : ∀ rc ∈ l, inGrid s.build rc.1 rc.2 = true)
    (hgrid : t.grid = writeCells s.build s.grid (l.map fun rc => (rc, f rc))) (r c : Nat) :
    t.gridRead r c = if (r, c) ∈ l then some (f (r, c)) else s.gridRead r c := by
  induction l generalizing s with
  | nil =>
    rw [if_neg (List.not_mem_nil)]
    exact State.gridRead_congr s t hbuild hgrid r c
  | cons rc l ih =>
    obtain ⟨hrc, hl⟩ := List.forall_mem_cons.mp hl
    rw [ih (s := State.gridWrite rc.1 rc.2 (f rc) s) hbuild hl hgrid]
    by_cases hmem : (r, c) ∈ l
    · rw [if_pos hmem, if_pos (List.mem_cons_of_mem _ hmem)]
    · rw [if_neg hmem]
      by_cases he : (r, c) = rc
      · subst he
        rw [if_pos (List.mem_cons_self ..), State.gridRead_gridWrite_same _ _ _ _ hrc]
      · rw [if_neg (by simp [he, hmem]), State.gridRead_gridWrite_other _ _ _ _ _ _ hrc he]

end

/-! ### The end of a list of pixels -/

/-- STATUS is known by BUSY and the other bits. -/
theorem status_eq_of_busy {s t : State} (hbusy : t.busy = s.busy)
    (h : ∀ j, j ≠ 0 → t.status.getLsbD j = s.status.getLsbD j) : t.status = s.status := by
  refine BitVec.eq_of_getLsbD_eq fun j _ => ?_
  by_cases hj : j = 0
  · subst hj
    exact hbusy
  · exact h j hj

theorem State.Inv.busy_eq_false {s : State} (h : s.Inv) (hs : s.seq = []) : s.busy = false := by
  rw [← Bool.not_eq_true, h.busy]
  simp [hs]

/-- The state s has taken a command off its port and begun the sequences of the cells of l. -/
structure State.BeginsPainting (s : State) (f : Nat × Nat → Bool) (l : List (Nat × Nat)) (u : State) : Prop where
  build : u.build = s.build
  pinCfg : u.pinCfg = s.pinCfg
  cfgPulseUs : u.cfgPulseUs = s.cfgPulseUs
  grid : u.grid = s.grid
  trace : u.trace = s.trace
  script : u.script = s.script
  cmd : u.cmd = none
  status : ∀ j, j ≠ 0 → u.status.getLsbD j = s.status.getLsbD j
  seq : u.seq = paintWords s.build f l

/-- What the pixels of l, run to their end, leave of the state s. -/
structure State.Painted (s : State) (f : Nat × Nat → Bool) (l : List (Nat × Nat)) (t : State) : Prop where
  seq : t.seq = []
  status : t.status = s.status
  cmd : t.cmd = none
  gridRead : ∀ r c, t.gridRead r c = if (r, c) ∈ l then some (f (r, c)) else s.gridRead r c
  trace : ∃ es, t.trace = s.trace ++ es ∧ pulseCount (es.filterMap Event.act?) = l.length ∧
    l.length * (s.cfgPulseUs.toNat + s.build.recoveryUs) ≤ elapsedUs es

/-- A command that begins pixels runs them to their end. -/
theorem State.Inv.painted_of_step {s u : State} {c : CmdWord} {f : Nat × Nat → Bool} {l : List (Nat × Nat)} (h : s.Inv)
    (hscript : s.script = []) (hs : s.seq = []) (hf : s.faulted = false) (hi : s.initialized = true)
    (hl : ∀ rc ∈ l, inGrid s.build rc.1 rc.2 = true) (hstep : step { s with cmd := some c } = .next u)
    (hu : s.BeginsPainting f l u) : ∃ n t, core.run n { s with cmd := some c } = .next t ∧ s.Painted f l t := by
  have hinv : u.Inv := stepKeepsTheInvariant { s with cmd := some c } u (h.congr rfl rfl rfl rfl rfl rfl rfl) hstep
  have hconfigured : s.Configured := by
    obtain ⟨hi', -⟩ | ⟨-, hc, -⟩ := h.life.idle hf hs
    · rw [hi] at hi'
      cases hi'
    · exact hc
  have hperforming : u.Performing := ⟨hu.script.trans hscript, (hu.status 2 (by decide)).trans hf,
    by simpa only [State.Configured, hu.build, hu.pinCfg] using hconfigured⟩
  have hseq : u.seq = paintWords s.build f l ++ [] := by rw [hu.seq, List.append_nil]
  obtain ⟨t, hrun, ht, hprogress⟩ :=
    hperforming.run_plain ((plainWords_paintWords h.legal hl).of_build hu.build) hseq
  obtain ⟨es, htrace, hacts, -, hleast⟩ := hprogress.acts_of_seq hseq ht
  have hgrid := hprogress.writes_of_seq hseq ht
  rw [hu.build, hu.grid, queueWrites_paintWords h.legal hl] at hgrid
  refine ⟨_, t, State.RunsTo.head hstep hrun, ht, ?_, hprogress.cmd.trans hu.cmd,
    gridRead_of_painted (hprogress.build.trans hu.build) hl hgrid, es, by rw [htrace, hu.trace], ?_, ?_⟩
  · refine status_eq_of_busy ?_ fun j hj => (hprogress.status j hj).trans (hu.status j hj)
    rw [(hinv.of_run hrun).busy_eq_false ht, h.busy_eq_false hs]
  · rw [hacts, hu.build, pulseCount_paintWords]
  · rwa [hu.build, State.leastUs_paintWords, hu.cfgPulseUs, hu.build] at hleast

/-- An idle core with a script that is over takes the command on its port. -/
theorem State.Inv.step_command {s : State} {c : CmdWord} {i : Instr} (h : s.Inv) (hscript : s.script = [])
    (hs : s.seq = []) (hf : s.faulted = false) (hd : decodeCmd c = .ok i) :
    step { s with cmd := some c } = exec i { s with cmd := some c } :=
  (step_of_script_nil (s := { s with cmd := some c }) hscript hf).trans
    (coreTurn_of_decoded (s := { s with cmd := some c }) hf (.inr ⟨c, hs, h.busy_eq_false hs, rfl, hd⟩))

theorem putBusy_getLsbD (w : BitVec 32) (v : Bool) {j : Nat} (hj : j ≠ 0) : (putBit w 0 v).getLsbD j = w.getLsbD j := by
  rw [putBit_getLsbD _ _ (by decide), if_neg hj]

/-- Settles O51: SET_PIXEL begins one pixel. -/
theorem setPixelCompletes : Obligations.SetPixelCompletes := by
  intro s row col val h hscript hs hf hi hrow hcol
  have hin : inGrid s.build row.toNat col.toNat = true := (inGrid_eq_true_iff _ _ _).mpr ⟨hrow, hcol⟩
  have hstep := (h.step_command hscript hs hf (decodeCmd_wordSetPixel row col val)).trans
    (setPixelIsAccepted { s with cmd := some (wordSetPixel row col val) } row col val (h.busy_eq_false hs) hf hi hrow hcol)
  obtain ⟨n, t, hrun, ht⟩ := h.painted_of_step (f := fun _ => val) (l := [(row.toNat, col.toNat)]) hscript hs hf hi
    (by simpa using hin) hstep
    ⟨rfl, rfl, rfl, rfl, rfl, rfl, rfl, fun j hj => putBusy_getLsbD s.status true hj, (List.append_nil _).symm⟩
  obtain ⟨es, htrace, hpulse, hleast⟩ := ht.trace
  refine ⟨n, t, es, hrun, ht.seq, ht.status, ht.cmd, ?_, fun r c hne => ?_, htrace, hpulse, by simpa using hleast⟩
  · rw [ht.gridRead, if_pos (List.mem_singleton_self _)]
  · rw [ht.gridRead, if_neg (by simpa using hne)]

/-- Settles O52: UPDATE_FRAME begins the cells of the diff, and every other cell reads its target value already. -/
theorem updateFrameCompletes : Obligations.UpdateFrameCompletes := by
  intro s h hscript hs hf hi hheight hwidth
  have hgrid : s.GridComplete := by
    obtain ⟨hi', -⟩ | ⟨-, -, hg⟩ := h.life.idle hf hs
    · rw [hi] at hi'
      cases hi'
    · exact hg
  have hdiff := State.diff_eq_filter hgrid
  set ds := (cells s.build).filter s.differs with hds
  have hperm := s.sweepOrder_perm ds
  have hstatus (j : Nat) (hj : j ≠ 0) :
      (if ds = [] then s.status &&& 0xFFFFFFFE#32 else s.status ||| 1#32).getLsbD j = s.status.getLsbD j := by
    split
    · exact putBusy_getLsbD s.status false hj
    · exact putBusy_getLsbD s.status true hj
  have hstep := (h.step_command hscript hs hf decodeCmd_wordUpdateFrame).trans
    (exec_updateFrame_of_diff (s := { s with cmd := some wordUpdateFrame })
      ((ready_iff _).mpr ⟨h.busy_eq_false hs, hf⟩) hi ((frameFits_eq_true_iff _ _).mpr ⟨hheight, hwidth⟩)
      (State.diff_eq_filter (s := { s with cmd := some wordUpdateFrame }) hgrid))
  obtain ⟨n, t, hrun, ht⟩ := h.painted_of_step (f := fun rc => frameBit s.frame rc.1 rc.2) (l := s.sweepOrder ds)
    hscript hs hf hi (fun rc hrc => State.diff_inGrid hgrid hdiff rc (hperm.mem_iff.mp hrc)) hstep
    ⟨rfl, rfl, rfl, rfl, rfl, rfl, rfl, hstatus, rfl⟩
  obtain ⟨es, htrace, hpulse, hleast⟩ := ht.trace
  rw [hperm.length_eq] at hpulse hleast
  refine ⟨n, t, es, ds, hrun, ht.seq, ht.status, ht.cmd, fun r c hr hc => ?_, hdiff, htrace, hpulse, hleast⟩
  rw [ht.gridRead]
  split
  · rfl
  next hnot =>
    rw [hperm.mem_iff, hds, List.mem_filter, mem_cells, inGrid_eq_true_iff] at hnot
    simpa [hr, hc, State.differs] using hnot

end Sys2Proof.Machine
end

section
/-!
PROOFS. The stages of INIT run to their end (44_init.md R108 to R112), and so every command that was accepted
(43_display_controller.md R106, 60_exceptions.md R117).
-/

namespace Sys2Proof.Machine

/-! ### The stages of INIT -/

/-- What INIT_DONE at the end of the queue, after the words ws, leaves of the state s: all but the grid. -/
structure State.Started (s : State) (ws : List UopWord) (t : State) : Prop where
  seq : t.seq = []
  build : t.build = s.build
  cmd : t.cmd = s.cmd
  cfgPulseUs : t.cfgPulseUs = s.cfgPulseUs
  cfgSweep : t.cfgSweep = s.cfgSweep
  initialized : t.initialized = true
  faulted : t.faulted = false
  configured : t.Configured
  pinOut : t.pinOut = latchActs s.pinOut (queueActs s.build ws)
  trace : ∃ es, t.trace = s.trace ++ es ∧ s.leastUs (queueActs s.build ws) ≤ elapsedUs es

/-- The grid of t is one with every cell 0, after the writes of the words ws. -/
def State.ClearedBefore (s : State) (ws : List UopWord) (t : State) : Prop :=
  ∃ z : State, z.build = s.build ∧ (∀ r c, inGrid s.build r c = true → z.gridRead r c = some false) ∧
    t.grid = writeCells s.build z.grid (queueWrites ws)

section
variable {s t : State} {ws : List UopWord}

/-- A stage before it that touches neither the latches nor the configuration registers. -/
theorem State.Started.of_stage {s' : State} (h : s'.Started ws t) (hbuild : s'.build = s.build) (hcmd : s'.cmd = s.cmd)
    (hpulse : s'.cfgPulseUs = s.cfgPulseUs) (hsweep : s'.cfgSweep = s.cfgSweep) (hout : s'.pinOut = s.pinOut)
    {es : List Event} (htrace : s'.trace = s.trace ++ es) : s.Started ws t where
  seq := h.seq
  build := h.build.trans hbuild
  cmd := h.cmd.trans hcmd
  cfgPulseUs := h.cfgPulseUs.trans hpulse
  cfgSweep := h.cfgSweep.trans hsweep
  initialized := h.initialized
  faulted := h.faulted
  configured := h.configured
  pinOut := by rw [h.pinOut, hout, hbuild]
  trace := by
    obtain ⟨fs, hfs, hleast⟩ := h.trace
    rw [State.leastUs_congr hbuild hpulse, hbuild] at hleast
    refine ⟨es ++ fs, by rw [hfs, htrace, List.append_assoc], ?_⟩
    rw [elapsedUs_append]
    exact Nat.le_add_left_of_le hleast

/-- 44 R111: the words of the set-up run to their end, and INIT_DONE after them. -/
theorem State.Performing.run_initDone (h : s.Performing) (hws : PlainWords s.build ws)
    (hs : s.seq = ws ++ [wordInitDone]) :
    ∃ n t, s.RunsTo n t ∧ s.Started ws t ∧ t.grid = writeCells s.build s.grid (queueWrites ws) := by
  obtain ⟨t, hrun, ht, hprogress⟩ := h.run_plain hws hs
  obtain ⟨es, htrace, -, hout, hleast⟩ := hprogress.acts_of_seq hs ht
  have ht' := hprogress.performing h
  have hstep : step t = .next (State.setInitialized true t).retire := ht'.step_eq ht
  refine ⟨_, _, hrun.trans (.head hstep (.zero _)), ?_, by simpa using hprogress.writes_of_seq hs ht⟩
  exact {
    seq := by simp [ht]
    build := by simpa using hprogress.build
    cmd := by simpa using hprogress.cmd
    cfgPulseUs := by simpa using hprogress.cfgPulseUs
    cfgSweep := by simpa using hprogress.cfgSweep
    initialized := by simp
    faulted := by simpa using ht'.faulted
    configured := by simpa [State.Configured] using ht'.configured
    pinOut := by simpa using hout
    trace := ⟨es, by simpa using htrace, hleast⟩ }

/-- 44 R110: GRID_CLEAR, and what follows it. -/
theorem State.Performing.run_gridClear (h : s.Performing) (hws : PlainWords s.build ws)
    (hs : s.seq = wordGridClear :: (ws ++ [wordInitDone])) :
    ∃ n t, s.RunsTo n t ∧ s.Started ws t ∧ s.ClearedBefore ws t := by
  have hstep : step s = .next s.clearGrid.retire := h.step_eq hs
  have hperforming : s.clearGrid.retire.Performing :=
    ⟨by simpa using h.script, by simpa using h.faulted, by simpa [State.Configured] using h.configured⟩
  obtain ⟨n, t, hrun, ht, hgrid⟩ := hperforming.run_initDone (hws.of_build (by simp)) (by simp [hs])
  refine ⟨n + 1, t, .head hstep hrun, ht.of_stage (es := []) ?_ ?_ ?_ ?_ ?_ ?_, s.clearGrid, ?_, fun r c hin => ?_, ?_⟩
  case refine_8 =>
    obtain ⟨hr, hc⟩ := (inGrid_eq_true_iff _ _ _).mp hin
    exact State.clearGrid_gridRead_of_inside hr hc
  case refine_9 => simpa using hgrid
  all_goals simp

/-- 44 R109: PIN_CONFIG is the first step, and the platform may refuse the lines. -/
theorem run_pinConfig (hscript : s.script = []) (hf : s.faulted = false) (hws : PlainWords s.build ws)
    (hs : s.seq = wordPinConfig :: wordGridClear :: (ws ++ [wordInitDone])) :
    (∃ n t, s.RunsTo n t ∧ s.Started ws t ∧ s.ClearedBefore ws t) ∨
    s.RunsTo 1 (State.raise .pinCfg (State.drawn 15 (State.configureSome (s.draws + 1) s))) := by
  have hstep : step s = execPinConfig s := (step_of_script_nil hscript hf).trans (coreTurn_of_seq_cons hf hs)
  obtain hok | hfail := execPinConfig_cases s
  · have hperforming : (State.drawn 1 s.configureLines).retire.Performing :=
      ⟨by simpa using hscript, by simpa using hf, by simpa [State.Configured] using configured_configureLines s⟩
    obtain ⟨n, t, hrun, ht, hcleared⟩ := hperforming.run_gridClear (hws.of_build (by simp)) (by simp [hs])
    exact .inl ⟨n + 1, t, .head (hstep.trans hok) hrun,
      ht.of_stage (by simp) (by simp) (by simp) (by simp) (by simp) (by simp; rfl), by
        simpa [State.ClearedBefore] using hcleared⟩
  · exact .inr (.head (hstep.trans hfail) (.zero _))

end

/-- Settles O55: the run from each stage. -/
theorem runningCommandEndsWithTheNextOneHeld : Obligations.RunningCommandEndsWithTheNextOneHeld := by
  intro s h hscript hf
  have hended {n : Nat} {t : State} (hrun : s.RunsTo n t) (hseq : t.seq = []) (hcmd : t.cmd = s.cmd)
      (hfault : t.faulted = true → s.initialized = false ∧ t.faultCode = 1#4) :
      ∃ n t, core.run n s = .next t ∧ t.seq = [] ∧ t.busy = false ∧ t.cmd = s.cmd ∧
        (t.faulted = true → s.initialized = false ∧ t.faultCode = 1#4) :=
    ⟨n, t, hrun, hseq, (h.of_run hrun).busy_eq_false hseq, hcmd, hfault⟩
  have hstarted {n : Nat} {t : State} {ws : List UopWord} (hrun : s.RunsTo n t) (ht : s.Started ws t) :=
    hended hrun ht.seq ht.cmd fun hf' => by simp [ht.faulted] at hf'
  cases hs : s.seq with
  | nil => exact hended (.zero s) hs rfl fun hf' => by simp [hf] at hf'
  | cons w us =>
    cases h.life.stage hf hs with
    | configure hw hi _ hus =>
      obtain ⟨ws, hws, rfl⟩ := hus
      subst hw
      obtain ⟨n, t, hrun, ht, -⟩ | hrun := run_pinConfig hscript hf hws hs
      · exact hstarted hrun ht
      · exact hended hrun (by simp) (by simp) fun _ => ⟨hi, by simp [hf, FaultCode.number]⟩
    | clear hw _ hc hus =>
      obtain ⟨ws, hws, rfl⟩ := hus
      subst hw
      obtain ⟨n, t, hrun, ht, -⟩ := State.Performing.run_gridClear ⟨hscript, hf, hc⟩ hws hs
      exact hstarted hrun ht
    | finish hw _ hc _ hus =>
      subst hw hus
      obtain ⟨n, t, hrun, ht, -⟩ := State.Performing.run_initDone ⟨hscript, hf, hc⟩ (.nil _) hs
      exact hstarted hrun ht
    | plain hw hc _ hus =>
      obtain ⟨-, ws, hws, rfl⟩ | ⟨-, hus⟩ := hus
      · obtain ⟨n, t, hrun, ht, -⟩ := State.Performing.run_initDone ⟨hscript, hf, hc⟩ (.cons hw hws) hs
        exact hstarted hrun ht
      · obtain ⟨t, hrun, ht, hprogress⟩ :=
          State.Performing.run_plain (us := []) ⟨hscript, hf, hc⟩ (.cons hw hus) (by rw [hs, List.append_nil])
        exact hended hrun ht hprogress.cmd fun hf' => by simp [hprogress.faulted, hf] at hf'

/-! ### The words between GRID_CLEAR and INIT_DONE -/

/-- The cells of the startup clear. -/
def startupCells (b : Build) : List (Nat × Nat) := if b.startupClear then cells b else []

section
variable {b : Build}

theorem startupWords_eq (b : Build) : startupWords b =
    [wordEnableChannel 1#2, wordDisableChannel 2#2, wordDelay 2#2] ++ paintWords b (fun _ => false) (startupCells b) := by
  unfold startupWords startupCells
  split <;> rfl

theorem inGrid_of_mem_startupCells : ∀ rc ∈ startupCells b, inGrid b rc.1 rc.2 = true := by
  unfold startupCells
  split
  · exact fun rc hrc => (mem_cells b rc.1 rc.2).mp hrc
  · exact List.forall_mem_nil _

theorem queueActs_startupWords_eq (b : Build) : queueActs b (startupWords b) =
    [.write 12 true, .write 13 false, .wait .settle] ++ queueActs b (paintWords b (fun _ => false) (startupCells b)) := by
  rw [queueActs_startupWords, clearActs, startupCells]
  split <;> rfl

theorem queueWrites_startupWords (hb : b.Legal) :
    queueWrites (startupWords b) = (startupCells b).map fun rc => (rc, false) := by
  rw [startupWords_eq, queueWrites_append, queueWrites_paintWords hb inGrid_of_mem_startupCells]
  rfl

/-- 44 R110: the startup clear writes 0 over the zeros of GRID_CLEAR. -/
theorem State.ClearedBefore.gridRead {s t : State} (h : s.ClearedBefore (startupWords s.build) t) (hb : s.build.Legal)
    (hbuild : t.build = s.build) {r c : Nat} (hin : inGrid s.build r c = true) : t.gridRead r c = some false := by
  obtain ⟨z, hzbuild, hzero, hgrid⟩ := h
  rw [gridRead_of_painted (s := z) (f := fun _ => false) (l := startupCells s.build) (hbuild.trans hzbuild.symm)
    (by rw [hzbuild]; exact inGrid_of_mem_startupCells) (by rw [hgrid, hzbuild, queueWrites_startupWords hb])]
  split
  · rfl
  · exact hzero r c hin

theorem State.leastUs_startupWords (s : State) : s.leastUs (queueActs s.build (startupWords s.build)) =
    s.build.settleUs + (startupCells s.build).length * (s.cfgPulseUs.toNat + s.build.recoveryUs) := by
  rw [queueActs_startupWords_eq, State.leastUs_append, State.leastUs_paintWords]
  simp [State.leastUs, State.minimumUs]

theorem length_cells (b : Build) : (cells b).length = b.height * b.width := by
  simp [cells]

/-- The last cell in row-major order (43 R96). -/
theorem cells_eq_append (hb : b.Legal) : ∃ l, cells b = l ++ [(b.height - 1, b.width - 1)] := by
  obtain ⟨hheight, -, hwidth, -⟩ := hb
  obtain ⟨h, hh⟩ : ∃ h, b.height = h + 1 := ⟨b.height - 1, by omega⟩
  obtain ⟨w, hw⟩ : ∃ w, b.width = w + 1 := ⟨b.width - 1, by omega⟩
  refine ⟨((List.range h).flatMap fun r => (List.range (w + 1)).map fun c => (r, c)) ++
    (List.range w).map fun c => (h, c), ?_⟩
  simp [cells, hh, hw, List.range_succ (n := h), List.flatMap_append]
  simp [List.range_succ]

/-- The latches after a pixel: only E1, and an A3 that is absent, are as before. -/
theorem latchActs_pixelSeq (out : Vector (Option Bool) 14) (b : Build) (v : Bool) (rc : Nat × Nat) :
    latchActs out (queueActs b (pixelSeq b v rc)) =
      let rp := position b (offsetOf rc.1) v
      let cp := position b (offsetOf rc.2) v
      #v[some (rp.testBit 0), some (rp.testBit 1), some (rp.testBit 2),
        if b.rowA3 then some (!rp.testBit 3) else out[3],
        some (cp.testBit 0), some (cp.testBit 1), some (cp.testBit 2),
        if b.colA3 then some (!cp.testBit 3) else out[7],
        some ((groupOf rc.1).testBit 0), some ((groupOf rc.1).testBit 1),
        some ((groupOf rc.2).testBit 0), some ((groupOf rc.2).testBit 1), out[12], some false] := by
  rw [queueActs_pixelSeq]
  refine Vector.ext fun j hj => ?_
  cases hrow : b.rowA3 <;> cases hcol : b.colA3 <;> interval_cases j <;>
    simp [rowActs, colActs, pulseActs, hrow, hcol, latchActs_cons, latchAct]

/-- The lines that no pixel writes: E1, and an A3 that is absent. -/
def KeptByPixels (b : Build) (j : Nat) : Prop := j = 12 ∨ (j = 3 ∧ b.rowA3 = false) ∨ (j = 7 ∧ b.colA3 = false)

theorem getElem_latchActs_paintWords (out : Vector (Option Bool) 14) {f : Nat × Nat → Bool} {l : List (Nat × Nat)}
    {j : Nat} (hj : j < 14) (hkept : KeptByPixels b j) :
    (latchActs out (queueActs b (paintWords b f l)))[j] = out[j] := by
  induction l generalizing out with
  | nil => rfl
  | cons rc l ih =>
    rw [paintWords_cons, queueActs_append, latchActs_append, ih]
    obtain rfl | ⟨rfl, h⟩ | ⟨rfl, h⟩ := hkept
    · simp [latchActs_pixelSeq]
    · simp [latchActs_pixelSeq, h]
    · simp [latchActs_pixelSeq, h]

/-- The latches before the startup clear. -/
def setUpLatches : Vector (Option Bool) 14 := latchActs (.replicate 14 none) [.write 12 true, .write 13 false, .wait .settle]

theorem getElem_setUpLatches {j : Nat} (hj : j < 14) (h : j ≤ 11) : setUpLatches[j] = none := by
  rw [setUpLatches, getElem_latchActs_of_not_written _ hj fun v hv => by simp at hv; omega, Vector.getElem_replicate]

theorem latchActs_startupWords (b : Build) : latchActs (.replicate 14 none) (queueActs b (startupWords b)) =
    latchActs setUpLatches (queueActs b (paintWords b (fun _ => false) (startupCells b))) := by
  rw [queueActs_startupWords_eq, latchActs_append, setUpLatches]

theorem latchActs_startupWords_of_no_clear (h : b.startupClear = false) :
    latchActs (.replicate 14 none) (queueActs b (startupWords b)) = setUpLatches := by
  rw [latchActs_startupWords, startupCells, h]
  rfl

/-- 44 R112: the lines as the last pixel of the startup clear leaves them. -/
theorem latchActs_startupWords_of_clear (hb : b.Legal) (h : b.startupClear = true) :
    latchActs (.replicate 14 none) (queueActs b (startupWords b)) =
      let rp := position b (offsetOf (b.height - 1)) false
      let cp := position b (offsetOf (b.width - 1)) false
      #v[some (rp.testBit 0), some (rp.testBit 1), some (rp.testBit 2),
        if b.rowA3 then some (!rp.testBit 3) else none,
        some (cp.testBit 0), some (cp.testBit 1), some (cp.testBit 2),
        if b.colA3 then some (!cp.testBit 3) else none,
        some ((groupOf (b.height - 1)).testBit 0), some ((groupOf (b.height - 1)).testBit 1),
        some ((groupOf (b.width - 1)).testBit 0), some ((groupOf (b.width - 1)).testBit 1), some true, some false] := by
  obtain ⟨l, hl⟩ := cells_eq_append hb
  have hpaint : paintWords b (fun _ => false) (startupCells b) =
      paintWords b (fun _ => false) l ++ pixelSeq b false (b.height - 1, b.width - 1) := by
    simp [startupCells, h, hl, paintWords]
  rw [latchActs_startupWords, hpaint, queueActs_append, latchActs_append, latchActs_pixelSeq]
  have h12 : (latchActs setUpLatches (queueActs b (paintWords b (fun _ => false) l)))[12] = some true :=
    getElem_latchActs_paintWords _ _ (.inl rfl)
  have h3 (ha3 : b.rowA3 = false) : (latchActs setUpLatches (queueActs b (paintWords b (fun _ => false) l)))[3] = none :=
    getElem_latchActs_paintWords _ _ (.inr (.inl ⟨rfl, ha3⟩))
  have h7 (ha3 : b.colA3 = false) : (latchActs setUpLatches (queueActs b (paintWords b (fun _ => false) l)))[7] = none :=
    getElem_latchActs_paintWords _ _ (.inr (.inr ⟨rfl, ha3⟩))
  cases hrow : b.rowA3 <;> cases hcol : b.colA3 <;> simp [h12, h3, h7, hrow, hcol]

end

theorem pinOut_of_fresh {s : State} (h : s.Fresh) : s.pinOut = .replicate 14 none :=
  Vector.ext fun j hj => by
    obtain ⟨hline, -⟩ := h
    rw [(hline ⟨j, hj⟩).2, Vector.getElem_replicate]

/-- Settles O54: after acceptance PIN_CONFIG fails, or the words of the set-up run to INIT_DONE. -/
theorem initCompletes : Obligations.InitCompletes := by
  intro s pulse mode h hscript hs hf hi
  have hfresh : s.Fresh := by
    obtain ⟨-, hfresh⟩ | ⟨hi', -⟩ := h.life.idle hf hs
    · exact hfresh
    · rw [hi] at hi'
      cases hi'
  have hout := pinOut_of_fresh hfresh
  let u : State := { s with
    cmd := none, cfgPulseUs := pulse, cfgSweep := mode, status := s.status ||| 1#32, seq := initSeq s.build }
  have hstep : step { s with cmd := some (wordInit pulse mode) } = .next u := by
    rw [h.step_command hscript hs hf (decodeCmd_wordInit pulse mode),
      initIsAccepted { s with cmd := some (wordInit pulse mode) } pulse mode (h.busy_eq_false hs) hf hi, ← initSeq_eq]
  have hbit {j : Nat} (hj : j ≠ 0) : u.status.getLsbD j = s.status.getLsbD j := putBusy_getLsbD s.status true hj
  have hinv : u.Inv := stepKeepsTheInvariant { s with cmd := some _ } u (h.congr rfl rfl rfl rfl rfl rfl rfl) hstep
  have huf : u.faulted = false := (hbit (j := 2) (by decide)).trans hf
  have hui : u.initialized = false := (hbit (j := 1) (by decide)).trans hi
  obtain ⟨n, t, hrun, ht, hcleared⟩ | hrun :=
    run_pinConfig (s := u) hscript huf (plainWords_startupWords h.legal) (initSeq_eq_cons s.build)
  · obtain ⟨es, htrace, hleast⟩ := ht.trace
    rw [State.leastUs_startupWords] at hleast
    have htout : t.pinOut = latchActs (.replicate 14 none) (queueActs s.build (startupWords s.build)) := by
      rw [ht.pinOut, ← hout]
    refine ⟨n + 1, t, es, State.RunsTo.head hstep hrun, ht.seq, (hinv.of_run hrun).busy_eq_false ht.seq, ht.cfgPulseUs,
      ht.cfgSweep, htrace, .inl ⟨ht.initialized, ht.faulted, ht.configured, fun r c hr hc => ?_, ?_⟩⟩
    · exact hcleared.gridRead h.legal ht.build ((inGrid_eq_true_iff _ _ _).mpr ⟨hr, hc⟩)
    · cases hclear : s.build.startupClear with
      | false =>
        rw [latchActs_startupWords_of_no_clear hclear] at htout
        rw [htout]
        refine ⟨rfl, rfl, fun _ => ⟨fun k hk => getElem_setUpLatches k.isLt hk, le_of_add_le_left hleast⟩, nofun⟩
      | true =>
        rw [latchActs_startupWords_of_clear h.legal hclear] at htout
        rw [startupCells, if_pos hclear, length_cells] at hleast
        rw [htout]
        refine ⟨rfl, rfl, nofun, fun _ => ⟨?_, hleast⟩⟩
        simp only [groupOf_eq, offsetOf_eq]
  · obtain ⟨hline, -, -⟩ := hfresh
    refine ⟨2, _, [.fault .pinCfg], State.RunsTo.head hstep hrun, by simp, by simp, by simp [u], by simp [u], ?_,
      .inr ⟨by simpa using hui, by simp, by simp [huf, FaultCode.number], fun k => by simpa [u] using (hline k).2⟩⟩
    simp [huf, u]

end Sys2Proof.Machine
end
